-- ==== Sys2Proof/Word.lean ====
section
/-! DEFINITION. The two word types of the hardware (spec 00_scope.md R7): a byte is 8 bits, a word is 16 bits. -/

namespace Sys2Proof

/-- A byte: 8 bits, bit 0 least significant (R5 `DATA_WIDTH`, R7). -/
abbrev Byte := BitVec 8

/-- A word: 16 bits, the width of an address, of SP, of pc and of a register pair (R5 `ADDR_WIDTH`, R7). -/
abbrev Word := BitVec 16

end Sys2Proof
end

