-- ==== Sys2Proof/Machine/Bits.lean ====
section
/-! DEFINITION. Bit-field, sign-extension and byte-order helpers (spec 00_scope.md R7, R10; 10_state.md R22). -/

namespace Sys2Proof

/-- Bits 15:8 of a word: the high half of a pair (R22). -/
def hiByte (w : Word) : Byte := w.extractLsb' 8 8

/-- Bits 7:0 of a word: the low half of a pair (R22). -/
def loByte (w : Word) : Byte := w.extractLsb' 0 8

/-- `hi : lo`, the word with `hi` in bits 15:8 and `lo` in bits 7:0 (R7). -/
def joinBytes (hi lo : Byte) : Word := hi ++ lo

/-- `sext_16` (R10): bits 15:8 all equal to bit 7. -/
def sext16 (v : Byte) : Word := v.signExtend 16

/-- `zext_16` (R10): bits 15:8 zero. -/
def zext16 (v : Byte) : Word := v.setWidth 16

/-- `v[3:0]` as an unsigned number. -/
def lowNibble (v : Byte) : Nat := v.toNat % 16

/-- `1 << b`: the byte with only bit `b` set (45_bit.md). -/
def bitMask (b : Fin 8) : Byte := 1#8 <<< b.val

/-- `x = op[7:6]` (30_encoding.md R92). -/
def fieldX (op : Byte) : Nat := op.toNat / 64

/-- `y = op[5:3]` (R92). -/
def fieldY (op : Byte) : Nat := op.toNat / 8 % 8

/-- `z = op[2:0]` (R92). -/
def fieldZ (op : Byte) : Nat := op.toNat % 8

/-- `p = op[5:4]` (R92). -/
def fieldP (op : Byte) : Nat := op.toNat / 16 % 4

/-- `q = op[3]` (R92). -/
def fieldQ (op : Byte) : Nat := op.toNat / 8 % 2

end Sys2Proof
end

