-- ==== Sys2Proof/Config.lean ====
section
/-! DEFINITION. What an implementation fixes (spec 00_scope.md R5, decisions D1 to D31) and the one free value,
the answer of a handler whose device the spec does not describe. -/

namespace Sys2Proof

/-- The fifteen named regions of the address map, in address order (20_memory.md R50). -/
inductive Region where
  | rom0 | romX | tile0 | tile1 | map0 | map1 | eram | wram0 | wramX | echo | oam
  | unusable | io | hram | ie
  deriving DecidableEq, Repr

/-- The `access` a fatal condition reports (60_exceptions.md R301). -/
inductive Access where
  | read | write
  deriving DecidableEq, Repr

/-- One call of an external handler (20_memory.md R61): `ext_read(g, offset)` or `ext_write(g, offset, byte)`. -/
inductive ExtCall where
  | read (g : Region) (offset : Nat)
  | write (g : Region) (offset : Nat) (v : Byte)
  deriving DecidableEq, Repr

/-- What stands behind an unwired region: the parameter `EXT_HANDLER[region]` (R5, R61; 92_eei_decisions.md D6, D29).
* `absent`: no handler; every access is fatal (the base core).
* `storage`: the standard handler of R61, a writable buffer of the region's length.
* `ifOnly`: the standard `IO` handler of D29, one stored byte at offset 0x0F (`IF`), every other offset unmapped.
* `device`: any other handler, an oracle (R61): the core fixes only which calls are made and in which order. -/
inductive Handler where
  | absent | storage | ifOnly | device
  deriving DecidableEq, Repr

namespace Config

/-- `ROM_BANK_SIZE` (R5, D3). -/
def romBankSize : Nat := 0x4000

/-- `WRAM_BANK_SIZE` (R5, R37). -/
def wramBankSize : Nat := 0x1000

/-- `ERAM_SIZE` (R5, D5). -/
def eramSize : Nat := 0x2000

/-- `RESET_PC` (R5, R341, D15). -/
def resetPc : Word := 0x0100#16

/-- `UNMAPPED_READ_VALUE` (R5, R62, D7). -/
def unmappedReadValue : Byte := 0xFF#8

/-- What a stored byte that nothing has written reads as. DESIGN CHOICE, unsafe (log entry 3): R343 leaves the
contents of every writable buffer open and allows 0x00. -/
def unlistedByte : Byte := 0x00#8

/-- FREE VALUE (log entry 6; U21): what `ext_read(g, offset)` of a `device` handler answers, `none` being
`unmapped`. A function of every call made before (newest first), so that a handler with any state of its own is
one of its values; nothing constrains it. -/
opaque extRead : List ExtCall → Region → Nat → Option Byte

end Config

end Sys2Proof
end

