-- ==== Sys2Proof/Machine/State.lean ====
section
/-! DEFINITION. The machine's state as plain data, its fatal conditions, and the state right after reset
(spec 10_state.md R20 to R41; 60_exceptions.md R300 to R306, R320). -/

namespace Sys2Proof.Machine

/-- The 8-bit registers that an `r8` code selects, in code order 0 to 5 and 7 (30_encoding.md R95). -/
inductive Reg8 where
  | b | c | d | e | h | l | a
  deriving DecidableEq, Repr

/-- Table `rp` (R96): the 16-bit operands of loads, `INC`, `DEC` and `ADD HL`. -/
inductive Pair where
  | bc | de | hl | sp
  deriving DecidableEq, Repr

/-- Table `rp2` (R96): the 16-bit operands of `PUSH` and `POP`. -/
inductive StackPair where
  | bc | de | hl | af
  deriving DecidableEq, Repr

/-- Table `cc` (R98, R260): the condition codes 0 to 3. -/
inductive Cond where
  | nz | z | nc | c
  deriving DecidableEq, Repr

/-- The byte buffers (10_state.md R37) the bus owns, and the buffers of the standard handlers (20_memory.md R61). -/
inductive Buffer where
  | rom | tile0 | tile1 | map0 | map1 | eram | wram | oam
  | unusable | io | hram | ie
  deriving DecidableEq, Repr

/-- One stored byte: a buffer and an offset into it. The banks of `wram` (and of `rom`) lie one after another. -/
structure Loc where
  buf : Buffer
  off : Nat
  deriving DecidableEq, Repr

/-- Every stored byte of the machine, a list of (offset, byte) pairs for each buffer in ONE canonical form:
offsets strictly rising, no entry equal to `Config.unlistedByte` (`Memory.wf` in Machine/Memory.lean). -/
structure Memory where
  rom : List Host.Cell
  tile0 : List Host.Cell
  tile1 : List Host.Cell
  map0 : List Host.Cell
  map1 : List Host.Cell
  eram : List Host.Cell
  wram : List Host.Cell
  oam : List Host.Cell
  unusable : List Host.Cell
  io : List Host.Cell
  hram : List Host.Cell
  ie : List Host.Cell
  deriving DecidableEq, Repr

/-- Memory with nothing listed. -/
def Memory.empty : Memory :=
  { rom := [], tile0 := [], tile1 := [], map0 := [], map1 := [], eram := [], wram := [], oam := [],
    unusable := [], io := [], hram := [], ie := [] }

/-- `EXT_HANDLER[region]` for the four unwired regions (R5, R60, R61). -/
structure Handlers where
  unusable : Handler
  io : Handler
  hram : Handler
  ie : Handler
  deriving DecidableEq, Repr

/-- All four handlers absent: the base core (R60, R344). -/
def Handlers.none : Handlers :=
  { unusable := .absent, io := .absent, hram := .absent, ie := .absent }

/-- The whole state. -/
structure State where
  /-- A, the accumulator (R21). -/
  a : Byte
  /-- F, the flags: Z N H C in bits 7 to 4, bits 3:0 zero (R28). -/
  f : Byte
  b : Byte
  c : Byte
  d : Byte
  e : Byte
  h : Byte
  l : Byte
  /-- SP, the stack pointer (R21). -/
  sp : Word
  /-- pc, the address of the next instruction; inside an instruction, of the following one (R11, R26). -/
  pc : Word
  /-- `ime`, interrupt master enable (R320; the extension only). -/
  ime : Bool
  /-- `halted`, the source's "halted-awaiting-interrupt" (R320; the extension only). -/
  halted : Bool
  /-- `ei_pending`, an `EI` was the last instruction executed (R320; the extension only). -/
  eiPending : Bool
  /-- `wram_slot1`, the bank of the window 0xD000 to 0xDFFF, 1 to 7 (R33). -/
  wramSlot1 : Fin 8
  /-- `rom_slot1`, the bank of the window 0x4000 to 0x7FFF, 1 to `ROM_BANKS` − 1 (R33). -/
  romSlot1 : Nat
  /-- `eram_bank`, 0 only (R33). -/
  eramBank : Fin 1
  /-- `ROM_BANKS`, the number of 0x4000-byte banks of the image, at least 2 (R5, D4); fixed at launch. -/
  romBanks : Nat
  /-- Every stored byte (R37, R61). -/
  mem : Memory
  /-- `EXT_HANDLER` (R5, R61); fixed at launch. -/
  handlers : Handlers
  /-- `INTERRUPT_EXT` present (R5, R320, D12); fixed at launch. -/
  interruptExt : Bool
  /-- The MODEL'S OWN field (log entry 6): the calls made to `device` handlers so far, newest first. The free
  value `Config.extRead` is applied to it. -/
  extCalls : List ExtCall
  /-- The MODEL'S OWN field (log entry 7): the `cycles` that the last step returned (R11, R353). An output of
  the step; nothing reads it. -/
  cycles : Nat
  deriving DecidableEq, Repr

/-- The fatal conditions (60_exceptions.md R300, R301). A fatal condition ends the run; it carries its kind and
information and no successor state (R308). `UnmappableAddress` (code 1) cannot arise with 16-bit addresses and is
omitted, as R72 and R302 allow. -/
inductive Fault where
  /-- Code 2 (R303). Raised by every byte access (fetch, load, store, stack, interrupt check) to a region of the
  four unwired ones whose handler is absent. The spec's own fatal condition: safe. -/
  | unwiredRegion (region : Region) (address : Word) (access : Access)
  /-- Code 3 (R304). Raised by the eleven `ILLEGAL` opcodes. The spec's own fatal condition: safe. -/
  | invalidOpcode (opcode : Byte) (address : Word)
  /-- Code 4 (R305). Raised by `HALT` and `STOP` when `INTERRUPT_EXT` is absent. The spec's own: safe. -/
  | unimplementedInstruction (opcode : Byte) (address : Word)
  deriving DecidableEq, Repr

/-- Reasons to refuse. -/
inductive Refusal where
  /-- The instruction has no meaning yet; answered by an arm of `exec` only, by name. Safe. No arm uses it. -/
  | notModelled (mnemonic : String)
  deriving DecidableEq, Repr

/-- The machine right after reset, every launch argument at the value the log names (10_state.md R41,
70_reset_and_hazards.md R341 to R345). pc, the bank selectors, the handlers, `INTERRUPT_EXT`, `ime`, `halted` and
`ei_pending` are the spec's. A B C D E H L, bits 7:4 of F and SP are OPEN in the spec (D16): DESIGN CHOICE, log
entries 1 and 2. The image and the writable buffers list nothing: log entry 3. -/
def State.reset : State :=
  { a := 0#8, f := 0#8, b := 0#8, c := 0#8, d := 0#8, e := 0#8, h := 0#8, l := 0#8,
    sp := 0xDFF0#16, pc := Config.resetPc,
    ime := false, halted := false, eiPending := false,
    wramSlot1 := 1, romSlot1 := 1, eramBank := 0, romBanks := 2,
    mem := Memory.empty, handlers := Handlers.none, interruptExt := false,
    extCalls := [], cycles := 0 }

end Sys2Proof.Machine
end

