-- ==== Sys2Proof/Machine/Operands.lean ====
section
/-! DEFINITION. Register operands: the `r8`, `rp`, `rp2` tables, pairs and halves, the conditions, the high page
(spec 10_state.md R21, R22; 30_encoding.md R95 to R98; 46_control.md R260). -/

namespace Sys2Proof.Machine

/-- `x[i]` read (00_scope.md R8). -/
def State.reg (s : State) : Reg8 → Byte
  | .b => s.b
  | .c => s.c
  | .d => s.d
  | .e => s.e
  | .h => s.h
  | .l => s.l
  | .a => s.a

/-- `x[i] <- v`: every other register, the other half of the pair among them, is unchanged (R8, R22). -/
def State.setReg (s : State) (r : Reg8) (v : Byte) : State :=
  match r with
  | .b => { s with b := v }
  | .c => { s with c := v }
  | .d => { s with d := v }
  | .e => { s with e := v }
  | .h => { s with h := v }
  | .l => { s with l := v }
  | .a => { s with a := v }

/-- `BC = B : C` (R22). -/
def State.bc (s : State) : Word := joinBytes s.b s.c

/-- `DE = D : E` (R22). -/
def State.de (s : State) : Word := joinBytes s.d s.e

/-- `HL = H : L` (R22). -/
def State.hl (s : State) : Word := joinBytes s.h s.l

/-- `AF = A : F` (R22). -/
def State.af (s : State) : Word := joinBytes s.a s.f

/-- `HL <- w`: both halves (R22). -/
def State.setHl (s : State) (w : Word) : State := { s with h := hiByte w, l := loByte w }

/-- The value F stores: bits 3:0 are always zero (R28, D27). -/
def maskF (v : Byte) : Byte := v &&& 0xF0#8

/-- `rr[p]` read (R8, R96). -/
def State.pair (s : State) : Pair → Word
  | .bc => s.bc
  | .de => s.de
  | .hl => s.hl
  | .sp => s.sp

/-- `rr[p] <- w` (R22, R96). -/
def State.setPair (s : State) (p : Pair) (w : Word) : State :=
  match p with
  | .bc => { s with b := hiByte w, c := loByte w }
  | .de => { s with d := hiByte w, e := loByte w }
  | .hl => s.setHl w
  | .sp => { s with sp := w }

/-- `rr2[p]` read (R8, R96). -/
def State.stackPair (s : State) : StackPair → Word
  | .bc => s.bc
  | .de => s.de
  | .hl => s.hl
  | .af => s.af

/-- `rr2[p] <- w`; for AF the low half receives `w[7:4] : 0b0000` (R22, R28, R156). -/
def State.setStackPair (s : State) (p : StackPair) (w : Word) : State :=
  match p with
  | .bc => { s with b := hiByte w, c := loByte w }
  | .de => { s with d := hiByte w, e := loByte w }
  | .hl => s.setHl w
  | .af => { s with a := hiByte w, f := maskF (loByte w) }

/-- The high-page address `0xFF00 + zext_16(v)` of the `LDH` forms (R97, R131 to R134). -/
def highPage (v : Byte) : Word := 0xFF00#16 + zext16 v

/-- The register of an `r8` code, none for code 6, which is the byte at HL (R95). -/
def reg8OfCode : Nat → Option Reg8
  | 0 => some .b
  | 1 => some .c
  | 2 => some .d
  | 3 => some .e
  | 4 => some .h
  | 5 => some .l
  | 7 => some .a
  | _ => none

end Sys2Proof.Machine
end

