-- ==== Sys2Proof/Machine/Flags.lean ====
section
/-! DEFINITION. The flags register and every flag and result computation: integers first, narrowed at the end
(spec 10_state.md R28 to R31; 42_alu8.md R165 to R197; 43_alu16.md; 44_rotate_shift.md R220 to R224). -/

namespace Sys2Proof.Machine

/-! ### F and its accessors -/

/-- Z is bit 7 of F (R28). -/
def flagZ (f : Byte) : Bool := f.getLsbD 7

/-- N is bit 6 of F and no other bit (R28, R29). -/
def flagN (f : Byte) : Bool := f.getLsbD 6

/-- H is bit 5 of F (R28). -/
def flagH (f : Byte) : Bool := f.getLsbD 5

/-- C is bit 4 of F (R28). -/
def flagC (f : Byte) : Bool := f.getLsbD 4

/-- F with the four flag bits given and bits 3:0 zero (R28). -/
def packFlags (z n h c : Bool) : Byte :=
  BitVec.ofBool z ++ BitVec.ofBool n ++ BitVec.ofBool h ++ BitVec.ofBool c ++ 0#4

/-- `setflags(z, n, h, c)` on F: `none` is `-`, leave unchanged; bits 3:0 become 0 (00_scope.md R10). -/
def setFlags (f : Byte) (z n h c : Option Bool) : Byte :=
  packFlags (z.getD (flagZ f)) (n.getD (flagN f)) (h.getD (flagH f)) (c.getD (flagC f))

/-- `cond(cc)` (46_control.md R260). -/
def State.cond (s : State) : Cond → Bool
  | .nz => !flagZ s.f
  | .z => flagZ s.f
  | .nc => !flagC s.f
  | .c => flagC s.f

/-! ### The 8-bit unit -/

/-- The eight accumulator operations `alu[y]`, in code order (30_encoding.md R98). -/
inductive AluOp where
  | add | adc | sub | sbc | and | xor | or | cp
  deriving DecidableEq, Repr

/-- The value A and F take after an accumulator operation. -/
structure AluResult where
  a : Byte
  f : Byte
  deriving DecidableEq, Repr

/-- A + v + carry-in (R166, R169). -/
def addWith (a v : Byte) (cin : Nat) : AluResult :=
  let r := a.toNat + v.toNat + cin
  { a := BitVec.ofNat 8 r,
    f := packFlags (r % 256 == 0) false (decide (lowNibble a + lowNibble v + cin > 0xF)) (decide (r > 0xFF)) }

/-- A − v − carry-in, C and H being borrows (R172, R175). -/
def subWith (a v : Byte) (cin : Nat) : AluResult :=
  let r := a - v - BitVec.ofNat 8 cin
  { a := r,
    f := packFlags (r == 0#8) true (decide (lowNibble a < lowNibble v + cin)) (decide (a.toNat < v.toNat + cin)) }

/-- `alu[y]` on A, an operand v and the carry flag before the instruction (R166, R169, R172, R175, R178, R181, R184,
R187). -/
def AluOp.apply (op : AluOp) (a v : Byte) (carry : Bool) : AluResult :=
  match op with
  | .add => addWith a v 0
  | .adc => addWith a v carry.toNat
  | .sub => subWith a v 0
  | .sbc => subWith a v carry.toNat
  | .and => { a := a &&& v, f := packFlags (a &&& v == 0#8) false true false }
  | .xor => { a := a ^^^ v, f := packFlags (a ^^^ v == 0#8) false false false }
  | .or => { a := a ||| v, f := packFlags (a ||| v == 0#8) false false false }
  | .cp => { a := a, f := (subWith a v 0).f }

/-- F after `INC` of an old value v (R190): C unchanged. -/
def incFlags (f v : Byte) : Byte :=
  setFlags f (some (v + 1#8 == 0#8)) (some false) (some (lowNibble v == 0xF)) none

/-- F after `DEC` of an old value v (R192): C unchanged. -/
def decFlags (f v : Byte) : Byte :=
  setFlags f (some (v - 1#8 == 0#8)) (some true) (some (lowNibble v == 0x0)) none

/-- The adjustment `DAA` adds or subtracts (R194): both tests look at A before any adjustment. -/
def daaAdjust (a : Byte) (n h c : Bool) : Byte :=
  if n then (if h then 0x06#8 else 0#8) ||| (if c then 0x60#8 else 0#8)
  else (if h || decide (lowNibble a > 9) then 0x06#8 else 0#8) |||
    (if c || decide (a.toNat > 0x99) then 0x60#8 else 0#8)

/-- `DAA` on A and F (R194). -/
def daaResult (a f : Byte) : AluResult :=
  let n := flagN f
  let c := flagC f
  let adj := daaAdjust a n (flagH f) c
  let r := if n then a - adj else a + adj
  { a := r, f := setFlags f (some (r == 0#8)) none (some false) (some (c || (!n && decide (a.toNat > 0x99)))) }

/-! ### 16-bit additions -/

/-- F after `ADD HL,rr` (R210): Z unchanged, H the carry out of bit 11, C out of bit 15. -/
def addHlFlags (f : Byte) (hl v : Word) : Byte :=
  setFlags f none (some false) (some (decide (hl.toNat % 0x1000 + v.toNat % 0x1000 > 0xFFF)))
    (some (decide (hl.toNat + v.toNat > 0xFFFF)))

/-- F after `ADD SP,e8` and `LD HL,SP+e8` (R153, R213): the carries of the unsigned addition on the low byte. -/
def spOffsetFlags (sp : Word) (e8 : Byte) : Byte :=
  packFlags false false (decide (sp.toNat % 0x10 + e8.toNat % 0x10 > 0xF))
    (decide (sp.toNat % 0x100 + e8.toNat > 0xFF))

/-! ### Rotates, shifts, swap -/

/-- The operations `rot[y]` of the extended table, in code order (30_encoding.md R98). -/
inductive RotOp where
  | rlc | rrc | rl | rr | sla | sra | swap | srl
  deriving DecidableEq, Repr

/-- The result byte r of `rot[y]` on v and the old carry (44_rotate_shift.md R224). -/
def RotOp.result (op : RotOp) (v : Byte) (carry : Bool) : Byte :=
  match op with
  | .rlc => v.extractLsb' 0 7 ++ BitVec.ofBool (v.getLsbD 7)
  | .rrc => BitVec.ofBool (v.getLsbD 0) ++ v.extractLsb' 1 7
  | .rl => v.extractLsb' 0 7 ++ BitVec.ofBool carry
  | .rr => BitVec.ofBool carry ++ v.extractLsb' 1 7
  | .sla => v.extractLsb' 0 7 ++ BitVec.ofBool false
  | .sra => BitVec.ofBool (v.getLsbD 7) ++ v.extractLsb' 1 7
  | .swap => v.extractLsb' 0 4 ++ v.extractLsb' 4 4
  | .srl => BitVec.ofBool false ++ v.extractLsb' 1 7

/-- The carry-out c of `rot[y]` on v (R224). -/
def RotOp.carryOut (op : RotOp) (v : Byte) : Bool :=
  match op with
  | .rlc | .rl | .sla => v.getLsbD 7
  | .rrc | .rr | .sra | .srl => v.getLsbD 0
  | .swap => false

/-- F after `rot[y]` in the extended table: Z from the result, N and H clear (R224). -/
def RotOp.flags (op : RotOp) (v : Byte) (carry : Bool) : Byte :=
  packFlags (op.result v carry == 0#8) false false (op.carryOut v)

/-- F after the accumulator rotate of the same name: Z is always cleared (R220 to R223). -/
def RotOp.accFlags (op : RotOp) (v : Byte) : Byte := packFlags false false false (op.carryOut v)

/-! ### Single bits -/

/-- F after `BIT b` of v (45_bit.md R250): C unchanged. -/
def bitFlags (f v : Byte) (b : Fin 8) : Byte :=
  setFlags f (some (!v.getLsbD b.val)) (some false) (some true) none

/-- `v AND ~(1 << b)` (R252). -/
def resBit (v : Byte) (b : Fin 8) : Byte := v &&& ~~~(bitMask b)

/-- `v OR (1 << b)` (R254). -/
def setBit (v : Byte) (b : Fin 8) : Byte := v ||| bitMask b

end Sys2Proof.Machine
end

