-- ==== Sys2Proof/Machine/Memory.lean ====
section
/-! DEFINITION. Stored bytes in canonical form, the address map, the decoder `resolve` and the byte of storage an
address names (spec 20_memory.md R50 to R63; 10_state.md R33, R37). -/

namespace Sys2Proof.Machine

/-! ### Buffers as canonical lists -/

/-- The byte at offset `k`; an unlisted one reads as `Config.unlistedByte`. -/
def cellsRead : List Host.Cell → Nat → Byte
  | [], _ => Config.unlistedByte
  | (j, v) :: rest, k => if j = k then v else cellsRead rest k

/-- Store `v` at offset `k`, keeping offsets strictly rising and listing no byte equal to an unlisted one. -/
def cellsWrite : List Host.Cell → Nat → Byte → List Host.Cell
  | [], k, v => if v = Config.unlistedByte then [] else [(k, v)]
  | (j, u) :: rest, k, v =>
    if k < j then (if v = Config.unlistedByte then (j, u) :: rest else (k, v) :: (j, u) :: rest)
    else if k = j then (if v = Config.unlistedByte then rest else (k, v) :: rest)
    else (j, u) :: cellsWrite rest k v

/-- The canonical form from offset `lo` on: offsets rising from `lo`, below `size`, no entry unlisted-valued. -/
def cellsWf (size : Nat) : Nat → List Host.Cell → Bool
  | _, [] => true
  | lo, (k, v) :: rest => lo ≤ k && k < size && v != Config.unlistedByte && cellsWf size (k + 1) rest

/-- The canonical list of the bytes `vs` laid out from offset `k`. -/
def cellsOfBytes : Nat → List Byte → List Host.Cell
  | _, [] => []
  | k, v :: rest => if v = Config.unlistedByte then cellsOfBytes (k + 1) rest else (k, v) :: cellsOfBytes (k + 1) rest

/-- The cells of one buffer. -/
def Memory.cells (m : Memory) : Buffer → List Host.Cell
  | .rom => m.rom
  | .tile0 => m.tile0
  | .tile1 => m.tile1
  | .map0 => m.map0
  | .map1 => m.map1
  | .eram => m.eram
  | .wram => m.wram
  | .oam => m.oam
  | .unusable => m.unusable
  | .io => m.io
  | .hram => m.hram
  | .ie => m.ie

/-- Replace the cells of one buffer. -/
def Memory.setCells (m : Memory) (cs : List Host.Cell) : Buffer → Memory
  | .rom => { m with rom := cs }
  | .tile0 => { m with tile0 := cs }
  | .tile1 => { m with tile1 := cs }
  | .map0 => { m with map0 := cs }
  | .map1 => { m with map1 := cs }
  | .eram => { m with eram := cs }
  | .wram => { m with wram := cs }
  | .oam => { m with oam := cs }
  | .unusable => { m with unusable := cs }
  | .io => { m with io := cs }
  | .hram => { m with hram := cs }
  | .ie => { m with ie := cs }

/-- The size of each buffer in bytes (R37; R50 for the handlers' buffers), the image having `romBanks` banks. -/
def Buffer.size (romBanks : Nat) : Buffer → Nat
  | .rom => romBanks * Config.romBankSize
  | .tile0 => 0x1000
  | .tile1 => 0x0800
  | .map0 => 0x0400
  | .map1 => 0x0400
  | .eram => Config.eramSize
  | .wram => 8 * Config.wramBankSize
  | .oam => 0x00A0
  | .unusable => 0x0060
  | .io => 0x0080
  | .hram => 0x007F
  | .ie => 0x0001

/-- The byte stored at a location. -/
def Memory.read (m : Memory) (p : Loc) : Byte := cellsRead (m.cells p.buf) p.off

/-- Store a byte at a location. -/
def Memory.write (m : Memory) (p : Loc) (v : Byte) : Memory :=
  m.setCells (cellsWrite (m.cells p.buf) p.off v) p.buf

/-- Every buffer, in the order of `Buffer`. -/
def allBuffers : List Buffer :=
  [.rom, .tile0, .tile1, .map0, .map1, .eram, .wram, .oam, .unusable, .io, .hram, .ie]

/-- Every buffer is canonical and within its size. -/
def Memory.wf (m : Memory) (romBanks : Nat) : Bool :=
  allBuffers.all fun b => cellsWf (b.size romBanks) 0 (m.cells b)

/-! ### The address map -/

/-- The write-permission attribute of a region (R50, R58). -/
inductive Permission where
  | readOnly | writable
  deriving DecidableEq, Repr

/-- First address of a region (R50; the three video boundaries 0x9000, 0x9800, 0x9C00 are `VRAM_SPLIT`, R53, D19). -/
def regionFirst : Region → Nat
  | .rom0 => 0x0000
  | .romX => 0x4000
  | .tile0 => 0x8000
  | .tile1 => 0x9000
  | .map0 => 0x9800
  | .map1 => 0x9C00
  | .eram => 0xA000
  | .wram0 => 0xC000
  | .wramX => 0xD000
  | .echo => 0xE000
  | .oam => 0xFE00
  | .unusable => 0xFEA0
  | .io => 0xFF00
  | .hram => 0xFF80
  | .ie => 0xFFFF

/-- Last address of a region (R50). -/
def regionLast : Region → Nat
  | .rom0 => 0x3FFF
  | .romX => 0x7FFF
  | .tile0 => 0x8FFF
  | .tile1 => 0x97FF
  | .map0 => 0x9BFF
  | .map1 => 0x9FFF
  | .eram => 0xBFFF
  | .wram0 => 0xCFFF
  | .wramX => 0xDFFF
  | .echo => 0xFDFF
  | .oam => 0xFE9F
  | .unusable => 0xFEFF
  | .io => 0xFF7F
  | .hram => 0xFFFE
  | .ie => 0xFFFF

/-- Permission column of R50 (`ECHO` has its target's: `resolve` never answers it). -/
def regionPermission : Region → Permission
  | .rom0 => .readOnly
  | .romX => .readOnly
  | .tile0 | .tile1 | .map0 | .map1 | .eram | .wram0 | .wramX | .echo | .oam => .writable
  | .unusable | .io | .hram | .ie => .writable

/-- The row of R50 an address lies in: the rows are contiguous, so the first row not ending before it (R51). -/
def regionOf (a : Word) : Region :=
  if a.toNat ≤ 0x3FFF then .rom0
  else if a.toNat ≤ 0x7FFF then .romX
  else if a.toNat ≤ 0x8FFF then .tile0
  else if a.toNat ≤ 0x97FF then .tile1
  else if a.toNat ≤ 0x9BFF then .map0
  else if a.toNat ≤ 0x9FFF then .map1
  else if a.toNat ≤ 0xBFFF then .eram
  else if a.toNat ≤ 0xCFFF then .wram0
  else if a.toNat ≤ 0xDFFF then .wramX
  else if a.toNat ≤ 0xFDFF then .echo
  else if a.toNat ≤ 0xFE9F then .oam
  else if a.toNat ≤ 0xFEFF then .unusable
  else if a.toNat ≤ 0xFF7F then .io
  else if a.toNat ≤ 0xFFFE then .hram
  else .ie

/-- The triple that `resolve` answers (R54). -/
structure Resolved where
  region : Region
  offset : Nat
  permission : Permission
  deriving DecidableEq, Repr

/-- The last line of R54: region, offset from its first address, permission. -/
def resolveRow (a : Word) : Resolved :=
  { region := regionOf a, offset := a.toNat - regionFirst (regionOf a), permission := regionPermission (regionOf a) }

/-- `resolve` (R54): an echo address is translated by −0x2000, once. -/
def resolve (a : Word) : Resolved :=
  if regionOf a = .echo then resolveRow (a - 0x2000#16) else resolveRow a

/-! ### From a triple to a byte -/

/-- What an address names, with the bank selectors and the handlers of a state. -/
inductive Target where
  /-- A stored byte, with its region's permission (R55; the standard handlers' buffers, R61). -/
  | cell (p : Loc) (perm : Permission)
  /-- An offset the present handler does not implement (R62). -/
  | unmapped
  /-- A byte of a `device` handler (R61). -/
  | device (g : Region) (offset : Nat)
  /-- A region with no handler (R60). -/
  | unwired (g : Region)
  deriving DecidableEq, Repr

/-- What `EXT_HANDLER[g]` makes of an access at an offset of an unwired region (R60 to R62, D29). -/
def handlerTarget (hd : Handler) (g : Region) (buf : Buffer) (offset : Nat) : Target :=
  match hd with
  | .absent => .unwired g
  | .storage => .cell { buf := buf, off := offset } .writable
  | .ifOnly => if offset = 0x0F then .cell { buf := buf, off := offset } .writable else .unmapped
  | .device => .device g offset

/-- R55 and R60 to R63 for a triple: the storage byte of an owned region through the bank selectors, or what the
region's handler makes of it. A triple never names `ECHO` (R54); its row is read as working RAM here. -/
def targetOf (s : State) (r : Resolved) : Target :=
  match r.region with
  | .rom0 => .cell { buf := .rom, off := r.offset } r.permission
  | .romX => .cell { buf := .rom, off := s.romSlot1 * Config.romBankSize + r.offset } r.permission
  | .tile0 => .cell { buf := .tile0, off := r.offset } r.permission
  | .tile1 => .cell { buf := .tile1, off := r.offset } r.permission
  | .map0 => .cell { buf := .map0, off := r.offset } r.permission
  | .map1 => .cell { buf := .map1, off := r.offset } r.permission
  | .eram => .cell { buf := .eram, off := s.eramBank.val * Config.eramSize + r.offset } r.permission
  | .wram0 => .cell { buf := .wram, off := r.offset } r.permission
  | .wramX => .cell { buf := .wram, off := s.wramSlot1.val * Config.wramBankSize + r.offset } r.permission
  | .echo => .cell { buf := .wram, off := r.offset } r.permission
  | .oam => .cell { buf := .oam, off := r.offset } r.permission
  | .unusable => handlerTarget s.handlers.unusable .unusable .unusable r.offset
  | .io => handlerTarget s.handlers.io .io .io r.offset
  | .hram => handlerTarget s.handlers.hram .hram .hram r.offset
  | .ie => handlerTarget s.handlers.ie .ie .ie r.offset

/-- What an address names in a state. -/
def State.target (s : State) (a : Word) : Target := targetOf s (resolve a)

end Sys2Proof.Machine
end

