-- ==== Sys2Proof/Machine/Ops.lean ====
section
/-! DEFINITION. The named operations over memory, the stack and control that every meaning is written with: the
four bus primitives (spec 20_memory.md R64 to R67), push and pop (41_load16.md), interrupt entry and return
(60_exceptions.md R323, R324, R327), and the end of a step. -/

namespace Sys2Proof.Machine

/-- An operation that may end in a fatal condition: the first one met ends the step (R10, R307). -/
abbrev Res (α : Type) := Except Fault α

/-- The outcome of a step. -/
abbrev Out := Host.Outcome State Fault Refusal

/-! ### The bus primitives -/

/-- `read8` (R64): the byte and the state after it. Only a `device` handler sees that it was read (R61, R70). -/
def State.readByte (s : State) (a : Word) : Res (Byte × State) :=
  match s.target a with
  | .cell p _ => .ok (s.mem.read p, s)
  | .unmapped => .ok (Config.unmappedReadValue, s)
  | .device g off =>
    .ok ((Config.extRead s.extCalls g off).getD Config.unmappedReadValue,
      { s with extCalls := .read g off :: s.extCalls })
  | .unwired g => .error (.unwiredRegion g a .read)

/-- `write8` (R65): a read-only region discards the byte (R59), a handler takes it (R61). -/
def State.writeByte (s : State) (a : Word) (v : Byte) : Res State :=
  match s.target a with
  | .cell p .writable => .ok { s with mem := s.mem.write p v }
  | .cell _ .readOnly => .ok s
  | .unmapped => .ok s
  | .device g off => .ok { s with extCalls := .write g off v :: s.extCalls }
  | .unwired g => .error (.unwiredRegion g a .write)

/-- `read16LittleEndian` (R66): two independent byte reads, low address first, the address modulo 2^16 (R71). -/
def State.readWord (s : State) (a : Word) : Res (Word × State) := do
  let (lo, s) ← s.readByte a
  let (hi, s) ← s.readByte (a + 1#16)
  pure (joinBytes hi lo, s)

/-- `write16LittleEndian` (R67): two independent byte writes, low address first. -/
def State.writeWord (s : State) (a : Word) (w : Word) : Res State := do
  let s ← s.writeByte a (loByte w)
  s.writeByte (a + 1#16) (hiByte w)

/-! ### The stack (41_load16.md, "The stack") -/

/-- `SP <- SP − 2; MemWrite(SP, 2, w)`. -/
def State.push (s : State) (w : Word) : Res State :=
  State.writeWord { s with sp := s.sp - 2#16 } (s.sp - 2#16) w

/-- `v <- MemRead(SP, 2); SP <- SP + 2`. -/
def State.pop (s : State) : Res (Word × State) := do
  let (w, t) ← s.readWord s.sp
  pure (w, { t with sp := t.sp + 2#16 })

/-! ### Control -/

/-- `pc <- target`. -/
def State.jump (s : State) (target : Word) : State := { s with pc := target }

/-- `CALL` and `RST`: push the address of the following instruction, then jump (R266, R271). -/
def State.call (s : State) (target : Word) : Res State := do
  let t ← s.push s.pc
  pure (t.jump target)

/-- `RET`: pop pc (R268). -/
def State.ret (s : State) : Res State := do
  let (w, t) ← s.pop
  pure (t.jump w)

/-! ### Interrupt entry and return (the extension) -/

/-- The address of the interrupt-enable register `IE` (R321). -/
def ieAddress : Word := 0xFFFF#16

/-- The address of the interrupt-request register `IF` (R322). -/
def ifAddress : Word := 0xFF0F#16

/-- The vector of source i: `0x0040 + 8 × i` (R323). -/
def vectorOf (i : Nat) : Word := 0x0040#16 + BitVec.ofNat 16 (8 * i)

/-- The lowest-numbered set bit of the five pending bits (R323, R324). -/
def lowestSource (pending : Byte) : Nat :=
  if pending.getLsbD 0 then 0
  else if pending.getLsbD 1 then 1
  else if pending.getLsbD 2 then 2
  else if pending.getLsbD 3 then 3
  else 4

/-- `IE AND IF AND 0x1F`, read through the bus at the start of a step (R324, R328). -/
def State.pendingSources (s : State) : Res (Byte × State) := do
  let (ie, s) ← s.readByte ieAddress
  let (rq, s) ← s.readByte ifAddress
  pure (ie &&& rq &&& 0x1F#8, s)

/-- TAKING AN INTERRUPT of source i (R324): clear `ime`, clear `IF[i]`, push pc (the address of the instruction not
yet executed), go to the vector. Nothing else is saved. -/
def State.takeInterrupt (s : State) (i : Nat) : Res State := do
  let s := { s with ime := false }
  let (rq, s) ← s.readByte ifAddress
  let s ← s.writeByte ifAddress (rq &&& ~~~(1#8 <<< i))
  let s ← s.push s.pc
  pure (s.jump (vectorOf i))

/-- RETURNING FROM AN INTERRUPT (`RETI`, R270, R327): as `RET`, then `ime <- 1` at once where the extension is
present; in the base core exactly `RET`. -/
def State.returnFromInterrupt (s : State) : Res State := do
  let t ← s.ret
  pure (if t.interruptExt then { t with ime := true } else t)

/-! ### The end of an instruction -/

/-- `return Next(state, cycles)`, or the fatal condition met (R11). -/
def finish (cycles : Nat) : Res State → Out
  | .ok s => .next { s with cycles := cycles }
  | .error k => .fault k

end Sys2Proof.Machine
end

