-- ==== Sys2Proof/Machine/Alu16.lean ====
section
/-! DEFINITION. 16-bit arithmetic (spec 43_alu16.md R210 to R213). -/

namespace Sys2Proof.Machine

/-- `ADD HL,rr` (R210). -/
def addToHl (p : Pair) (s : State) : Res State :=
  pure { s.setHl (s.hl + s.pair p) with f := addHlFlags s.f s.hl (s.pair p) }

/-- `INC rr` (R211): F is unchanged. -/
def incPair (p : Pair) (s : State) : Res State := pure (s.setPair p (s.pair p + 1#16))

/-- `DEC rr` (R212): F is unchanged. -/
def decPair (p : Pair) (s : State) : Res State := pure (s.setPair p (s.pair p - 1#16))

/-- `ADD SP,e8` (R213): the flags look at the old SP. -/
def addToSp (e8 : Byte) (s : State) : Res State :=
  pure { s with sp := s.sp + sext16 e8, f := spOffsetFlags s.sp e8 }

/-! ### One meaning per row of the table -/

/-- `INC BC` (R211). -/
def execIncBc (s : State) : Out := finish 2 (incPair .bc s)

/-- `ADD HL,BC` (R210). -/
def execAddHlBc (s : State) : Out := finish 2 (addToHl .bc s)

/-- `DEC BC` (R212). -/
def execDecBc (s : State) : Out := finish 2 (decPair .bc s)

/-- `INC DE` (R211). -/
def execIncDe (s : State) : Out := finish 2 (incPair .de s)

/-- `ADD HL,DE` (R210). -/
def execAddHlDe (s : State) : Out := finish 2 (addToHl .de s)

/-- `DEC DE` (R212). -/
def execDecDe (s : State) : Out := finish 2 (decPair .de s)

/-- `INC HL` (R211). -/
def execIncHl (s : State) : Out := finish 2 (incPair .hl s)

/-- `ADD HL,HL` (R210). -/
def execAddHlHl (s : State) : Out := finish 2 (addToHl .hl s)

/-- `DEC HL` (R212). -/
def execDecHl (s : State) : Out := finish 2 (decPair .hl s)

/-- `INC SP` (R211). -/
def execIncSp (s : State) : Out := finish 2 (incPair .sp s)

/-- `ADD HL,SP` (R210). -/
def execAddHlSp (s : State) : Out := finish 2 (addToHl .sp s)

/-- `DEC SP` (R212). -/
def execDecSp (s : State) : Out := finish 2 (decPair .sp s)

/-- `ADD SP,e8` (R213). -/
def execAddSpE8 (e8 : Byte) (s : State) : Out := finish 4 (addToSp e8 s)

end Sys2Proof.Machine
end

