-- ==== Sys2Proof/Machine/Alu8.lean ====
section
/-! DEFINITION. 8-bit arithmetic and logic (spec 42_alu8.md R165 to R197). -/

namespace Sys2Proof.Machine

/-- A and F take the result of `alu[y]` on A and v. -/
def applyAlu (op : AluOp) (v : Byte) (s : State) : State :=
  { s with a := (op.apply s.a v (flagC s.f)).a, f := (op.apply s.a v (flagC s.f)).f }

/-- `alu[y] r` (R166, R169, R172, R175, R178, R181, R184, R187). -/
def aluReg (op : AluOp) (r : Reg8) (s : State) : Res State := pure (applyAlu op (s.reg r) s)

/-- `alu[y] (HL)` (R167, R170, R173, R176, R179, R182, R185, R188). -/
def aluMem (op : AluOp) (s : State) : Res State := do
  let (v, t) ← s.readByte s.hl
  pure (applyAlu op v t)

/-- `alu[y] n8` (R168, R171, R174, R177, R180, R183, R186, R189). -/
def aluImm (op : AluOp) (n8 : Byte) (s : State) : Res State := pure (applyAlu op n8 s)

/-- `INC r` (R190). -/
def incReg (r : Reg8) (s : State) : Res State :=
  pure { s.setReg r (s.reg r + 1#8) with f := incFlags s.f (s.reg r) }

/-- `INC (HL)` (R191): one read, then one write of the same address. -/
def incMem (s : State) : Res State := do
  let (v, t) ← s.readByte s.hl
  let t ← t.writeByte t.hl (v + 1#8)
  pure { t with f := incFlags t.f v }

/-- `DEC r` (R192). -/
def decReg (r : Reg8) (s : State) : Res State :=
  pure { s.setReg r (s.reg r - 1#8) with f := decFlags s.f (s.reg r) }

/-- `DEC (HL)` (R193). -/
def decMem (s : State) : Res State := do
  let (v, t) ← s.readByte s.hl
  let t ← t.writeByte t.hl (v - 1#8)
  pure { t with f := decFlags t.f v }

/-- `DAA` (R194). -/
def decimalAdjust (s : State) : Res State :=
  pure { s with a := (daaResult s.a s.f).a, f := (daaResult s.a s.f).f }

/-- `CPL` (R195). -/
def complementA (s : State) : Res State :=
  pure { s with a := s.a ^^^ 0xFF#8, f := setFlags s.f none (some true) (some true) none }

/-- `SCF` (R196). -/
def setCarry (s : State) : Res State :=
  pure { s with f := setFlags s.f none (some false) (some false) (some true) }

/-- `CCF` (R197). -/
def complementCarry (s : State) : Res State :=
  pure { s with f := setFlags s.f none (some false) (some false) (some (!flagC s.f)) }

/-! ### One meaning per row of the table -/

/-- `INC B` (R190). -/
def execIncB (s : State) : Out := finish 1 (incReg .b s)

/-- `DEC B` (R192). -/
def execDecB (s : State) : Out := finish 1 (decReg .b s)

/-- `INC C` (R190). -/
def execIncC (s : State) : Out := finish 1 (incReg .c s)

/-- `DEC C` (R192). -/
def execDecC (s : State) : Out := finish 1 (decReg .c s)

/-- `INC D` (R190). -/
def execIncD (s : State) : Out := finish 1 (incReg .d s)

/-- `DEC D` (R192). -/
def execDecD (s : State) : Out := finish 1 (decReg .d s)

/-- `INC E` (R190). -/
def execIncE (s : State) : Out := finish 1 (incReg .e s)

/-- `DEC E` (R192). -/
def execDecE (s : State) : Out := finish 1 (decReg .e s)

/-- `INC H` (R190). -/
def execIncH (s : State) : Out := finish 1 (incReg .h s)

/-- `DEC H` (R192). -/
def execDecH (s : State) : Out := finish 1 (decReg .h s)

/-- `DAA` (R194). -/
def execDaa (s : State) : Out := finish 1 (decimalAdjust s)

/-- `INC L` (R190). -/
def execIncL (s : State) : Out := finish 1 (incReg .l s)

/-- `DEC L` (R192). -/
def execDecL (s : State) : Out := finish 1 (decReg .l s)

/-- `CPL` (R195). -/
def execCpl (s : State) : Out := finish 1 (complementA s)

/-- `INC (HL)` (R191). -/
def execIncAtHl (s : State) : Out := finish 3 (incMem s)

/-- `DEC (HL)` (R193). -/
def execDecAtHl (s : State) : Out := finish 3 (decMem s)

/-- `SCF` (R196). -/
def execScf (s : State) : Out := finish 1 (setCarry s)

/-- `INC A` (R190). -/
def execIncA (s : State) : Out := finish 1 (incReg .a s)

/-- `DEC A` (R192). -/
def execDecA (s : State) : Out := finish 1 (decReg .a s)

/-- `CCF` (R197). -/
def execCcf (s : State) : Out := finish 1 (complementCarry s)

/-- `ADD A,B` (R166). -/
def execAddB (s : State) : Out := finish 1 (aluReg .add .b s)

/-- `ADD A,C` (R166). -/
def execAddC (s : State) : Out := finish 1 (aluReg .add .c s)

/-- `ADD A,D` (R166). -/
def execAddD (s : State) : Out := finish 1 (aluReg .add .d s)

/-- `ADD A,E` (R166). -/
def execAddE (s : State) : Out := finish 1 (aluReg .add .e s)

/-- `ADD A,H` (R166). -/
def execAddH (s : State) : Out := finish 1 (aluReg .add .h s)

/-- `ADD A,L` (R166). -/
def execAddL (s : State) : Out := finish 1 (aluReg .add .l s)

/-- `ADD A,(HL)` (R167). -/
def execAddAtHl (s : State) : Out := finish 2 (aluMem .add s)

/-- `ADD A,A` (R166). -/
def execAddA (s : State) : Out := finish 1 (aluReg .add .a s)

/-- `ADC A,B` (R169). -/
def execAdcB (s : State) : Out := finish 1 (aluReg .adc .b s)

/-- `ADC A,C` (R169). -/
def execAdcC (s : State) : Out := finish 1 (aluReg .adc .c s)

/-- `ADC A,D` (R169). -/
def execAdcD (s : State) : Out := finish 1 (aluReg .adc .d s)

/-- `ADC A,E` (R169). -/
def execAdcE (s : State) : Out := finish 1 (aluReg .adc .e s)

/-- `ADC A,H` (R169). -/
def execAdcH (s : State) : Out := finish 1 (aluReg .adc .h s)

/-- `ADC A,L` (R169). -/
def execAdcL (s : State) : Out := finish 1 (aluReg .adc .l s)

/-- `ADC A,(HL)` (R170). -/
def execAdcAtHl (s : State) : Out := finish 2 (aluMem .adc s)

/-- `ADC A,A` (R169). -/
def execAdcA (s : State) : Out := finish 1 (aluReg .adc .a s)

/-- `SUB B` (R172). -/
def execSubB (s : State) : Out := finish 1 (aluReg .sub .b s)

/-- `SUB C` (R172). -/
def execSubC (s : State) : Out := finish 1 (aluReg .sub .c s)

/-- `SUB D` (R172). -/
def execSubD (s : State) : Out := finish 1 (aluReg .sub .d s)

/-- `SUB E` (R172). -/
def execSubE (s : State) : Out := finish 1 (aluReg .sub .e s)

/-- `SUB H` (R172). -/
def execSubH (s : State) : Out := finish 1 (aluReg .sub .h s)

/-- `SUB L` (R172). -/
def execSubL (s : State) : Out := finish 1 (aluReg .sub .l s)

/-- `SUB (HL)` (R173). -/
def execSubAtHl (s : State) : Out := finish 2 (aluMem .sub s)

/-- `SUB A` (R172). -/
def execSubA (s : State) : Out := finish 1 (aluReg .sub .a s)

/-- `SBC A,B` (R175). -/
def execSbcB (s : State) : Out := finish 1 (aluReg .sbc .b s)

/-- `SBC A,C` (R175). -/
def execSbcC (s : State) : Out := finish 1 (aluReg .sbc .c s)

/-- `SBC A,D` (R175). -/
def execSbcD (s : State) : Out := finish 1 (aluReg .sbc .d s)

/-- `SBC A,E` (R175). -/
def execSbcE (s : State) : Out := finish 1 (aluReg .sbc .e s)

/-- `SBC A,H` (R175). -/
def execSbcH (s : State) : Out := finish 1 (aluReg .sbc .h s)

/-- `SBC A,L` (R175). -/
def execSbcL (s : State) : Out := finish 1 (aluReg .sbc .l s)

/-- `SBC A,(HL)` (R176). -/
def execSbcAtHl (s : State) : Out := finish 2 (aluMem .sbc s)

/-- `SBC A,A` (R175). -/
def execSbcA (s : State) : Out := finish 1 (aluReg .sbc .a s)

/-- `AND B` (R178). -/
def execAndB (s : State) : Out := finish 1 (aluReg .and .b s)

/-- `AND C` (R178). -/
def execAndC (s : State) : Out := finish 1 (aluReg .and .c s)

/-- `AND D` (R178). -/
def execAndD (s : State) : Out := finish 1 (aluReg .and .d s)

/-- `AND E` (R178). -/
def execAndE (s : State) : Out := finish 1 (aluReg .and .e s)

/-- `AND H` (R178). -/
def execAndH (s : State) : Out := finish 1 (aluReg .and .h s)

/-- `AND L` (R178). -/
def execAndL (s : State) : Out := finish 1 (aluReg .and .l s)

/-- `AND (HL)` (R179). -/
def execAndAtHl (s : State) : Out := finish 2 (aluMem .and s)

/-- `AND A` (R178). -/
def execAndA (s : State) : Out := finish 1 (aluReg .and .a s)

/-- `XOR B` (R181). -/
def execXorB (s : State) : Out := finish 1 (aluReg .xor .b s)

/-- `XOR C` (R181). -/
def execXorC (s : State) : Out := finish 1 (aluReg .xor .c s)

/-- `XOR D` (R181). -/
def execXorD (s : State) : Out := finish 1 (aluReg .xor .d s)

/-- `XOR E` (R181). -/
def execXorE (s : State) : Out := finish 1 (aluReg .xor .e s)

/-- `XOR H` (R181). -/
def execXorH (s : State) : Out := finish 1 (aluReg .xor .h s)

/-- `XOR L` (R181). -/
def execXorL (s : State) : Out := finish 1 (aluReg .xor .l s)

/-- `XOR (HL)` (R182). -/
def execXorAtHl (s : State) : Out := finish 2 (aluMem .xor s)

/-- `XOR A` (R181). -/
def execXorA (s : State) : Out := finish 1 (aluReg .xor .a s)

/-- `OR B` (R184). -/
def execOrB (s : State) : Out := finish 1 (aluReg .or .b s)

/-- `OR C` (R184). -/
def execOrC (s : State) : Out := finish 1 (aluReg .or .c s)

/-- `OR D` (R184). -/
def execOrD (s : State) : Out := finish 1 (aluReg .or .d s)

/-- `OR E` (R184). -/
def execOrE (s : State) : Out := finish 1 (aluReg .or .e s)

/-- `OR H` (R184). -/
def execOrH (s : State) : Out := finish 1 (aluReg .or .h s)

/-- `OR L` (R184). -/
def execOrL (s : State) : Out := finish 1 (aluReg .or .l s)

/-- `OR (HL)` (R185). -/
def execOrAtHl (s : State) : Out := finish 2 (aluMem .or s)

/-- `OR A` (R184). -/
def execOrA (s : State) : Out := finish 1 (aluReg .or .a s)

/-- `CP B` (R187). -/
def execCpB (s : State) : Out := finish 1 (aluReg .cp .b s)

/-- `CP C` (R187). -/
def execCpC (s : State) : Out := finish 1 (aluReg .cp .c s)

/-- `CP D` (R187). -/
def execCpD (s : State) : Out := finish 1 (aluReg .cp .d s)

/-- `CP E` (R187). -/
def execCpE (s : State) : Out := finish 1 (aluReg .cp .e s)

/-- `CP H` (R187). -/
def execCpH (s : State) : Out := finish 1 (aluReg .cp .h s)

/-- `CP L` (R187). -/
def execCpL (s : State) : Out := finish 1 (aluReg .cp .l s)

/-- `CP (HL)` (R188). -/
def execCpAtHl (s : State) : Out := finish 2 (aluMem .cp s)

/-- `CP A` (R187). -/
def execCpA (s : State) : Out := finish 1 (aluReg .cp .a s)

/-- `ADD A,n8` (R168). -/
def execAddN8 (n8 : Byte) (s : State) : Out := finish 2 (aluImm .add n8 s)

/-- `ADC A,n8` (R171). -/
def execAdcN8 (n8 : Byte) (s : State) : Out := finish 2 (aluImm .adc n8 s)

/-- `SUB n8` (R174). -/
def execSubN8 (n8 : Byte) (s : State) : Out := finish 2 (aluImm .sub n8 s)

/-- `SBC A,n8` (R177). -/
def execSbcN8 (n8 : Byte) (s : State) : Out := finish 2 (aluImm .sbc n8 s)

/-- `AND n8` (R180). -/
def execAndN8 (n8 : Byte) (s : State) : Out := finish 2 (aluImm .and n8 s)

/-- `XOR n8` (R183). -/
def execXorN8 (n8 : Byte) (s : State) : Out := finish 2 (aluImm .xor n8 s)

/-- `OR n8` (R186). -/
def execOrN8 (n8 : Byte) (s : State) : Out := finish 2 (aluImm .or n8 s)

/-- `CP n8` (R189). -/
def execCpN8 (n8 : Byte) (s : State) : Out := finish 2 (aluImm .cp n8 s)

end Sys2Proof.Machine
end

