-- ==== Sys2Proof/Machine/Control.lean ====
section
/-! DEFINITION. Control transfers (spec 46_control.md R260 to R271). pc already holds the address of the following
instruction. A conditional transfer returns the larger cost when taken, the base cost when not (D10). -/

namespace Sys2Proof.Machine

/-- `JP cc,n16` (R262). -/
def jumpIf (cc : Cond) (n16 : Word) (s : State) : Out :=
  if s.cond cc then finish 4 (pure (s.jump n16)) else finish 3 (pure s)

/-- `pc <- pc + sext_16(e8)` (R264). -/
def jumpRelative (e8 : Byte) (s : State) : Res State := pure (s.jump (s.pc + sext16 e8))

/-- `JR cc,e8` (R265). -/
def jumpRelativeIf (cc : Cond) (e8 : Byte) (s : State) : Out :=
  if s.cond cc then finish 3 (jumpRelative e8 s) else finish 2 (pure s)

/-- `CALL cc,n16` (R267). -/
def callIf (cc : Cond) (n16 : Word) (s : State) : Out :=
  if s.cond cc then finish 6 (s.call n16) else finish 3 (pure s)

/-- `RET cc` (R269): not taken, the stack is not read. -/
def returnIf (cc : Cond) (s : State) : Out :=
  if s.cond cc then finish 5 s.ret else finish 2 (pure s)

/-! ### One meaning per row of the table -/

/-- `JR e8` (R264). -/
def execJrE8 (e8 : Byte) (s : State) : Out := finish 3 (jumpRelative e8 s)

/-- `JR NZ,e8` (R265). -/
def execJrNzE8 (e8 : Byte) (s : State) : Out := jumpRelativeIf .nz e8 s

/-- `JR Z,e8` (R265). -/
def execJrZE8 (e8 : Byte) (s : State) : Out := jumpRelativeIf .z e8 s

/-- `JR NC,e8` (R265). -/
def execJrNcE8 (e8 : Byte) (s : State) : Out := jumpRelativeIf .nc e8 s

/-- `JR C,e8` (R265). -/
def execJrCE8 (e8 : Byte) (s : State) : Out := jumpRelativeIf .c e8 s

/-- `RET NZ` (R269). -/
def execRetNz (s : State) : Out := returnIf .nz s

/-- `JP NZ,n16` (R262). -/
def execJpNzN16 (n16 : Word) (s : State) : Out := jumpIf .nz n16 s

/-- `JP n16` (R261). -/
def execJpN16 (n16 : Word) (s : State) : Out := finish 4 (pure (s.jump n16))

/-- `CALL NZ,n16` (R267). -/
def execCallNzN16 (n16 : Word) (s : State) : Out := callIf .nz n16 s

/-- `RST $00` (R271). -/
def execRst00 (s : State) : Out := finish 4 (s.call 0x0000#16)

/-- `RET Z` (R269). -/
def execRetZ (s : State) : Out := returnIf .z s

/-- `RET` (R268). -/
def execRet (s : State) : Out := finish 4 s.ret

/-- `JP Z,n16` (R262). -/
def execJpZN16 (n16 : Word) (s : State) : Out := jumpIf .z n16 s

/-- `CALL Z,n16` (R267). -/
def execCallZN16 (n16 : Word) (s : State) : Out := callIf .z n16 s

/-- `CALL n16` (R266). -/
def execCallN16 (n16 : Word) (s : State) : Out := finish 6 (s.call n16)

/-- `RST $08` (R271). -/
def execRst08 (s : State) : Out := finish 4 (s.call 0x0008#16)

/-- `RET NC` (R269). -/
def execRetNc (s : State) : Out := returnIf .nc s

/-- `JP NC,n16` (R262). -/
def execJpNcN16 (n16 : Word) (s : State) : Out := jumpIf .nc n16 s

/-- `CALL NC,n16` (R267). -/
def execCallNcN16 (n16 : Word) (s : State) : Out := callIf .nc n16 s

/-- `RST $10` (R271). -/
def execRst10 (s : State) : Out := finish 4 (s.call 0x0010#16)

/-- `RET C` (R269). -/
def execRetC (s : State) : Out := returnIf .c s

/-- `RETI` (R270). -/
def execReti (s : State) : Out := finish 4 s.returnFromInterrupt

/-- `JP C,n16` (R262). -/
def execJpCN16 (n16 : Word) (s : State) : Out := jumpIf .c n16 s

/-- `CALL C,n16` (R267). -/
def execCallCN16 (n16 : Word) (s : State) : Out := callIf .c n16 s

/-- `RST $18` (R271). -/
def execRst18 (s : State) : Out := finish 4 (s.call 0x0018#16)

/-- `RST $20` (R271). -/
def execRst20 (s : State) : Out := finish 4 (s.call 0x0020#16)

/-- `JP HL` (R263). -/
def execJpHl (s : State) : Out := finish 1 (pure (s.jump s.hl))

/-- `RST $28` (R271). -/
def execRst28 (s : State) : Out := finish 4 (s.call 0x0028#16)

/-- `RST $30` (R271). -/
def execRst30 (s : State) : Out := finish 4 (s.call 0x0030#16)

/-- `RST $38` (R271). -/
def execRst38 (s : State) : Out := finish 4 (s.call 0x0038#16)

end Sys2Proof.Machine
end

