-- ==== Sys2Proof/Machine/Load16.lean ====
section
/-! DEFINITION. 16-bit loads and the stack (spec 41_load16.md R150 to R156). -/

namespace Sys2Proof.Machine

/-- `rr[p] <- n16` (R150). -/
def loadPair (p : Pair) (n16 : Word) (s : State) : Res State := pure (s.setPair p n16)

/-- `MemWrite(n16, 2, SP)` (R151). -/
def storeSp (n16 : Word) (s : State) : Res State := s.writeWord n16 s.sp

/-- `SP <- HL` (R152). -/
def copyHlToSp (s : State) : Res State := pure { s with sp := s.hl }

/-- `HL <- SP + sext_16(e8)` with the flags of the unsigned low-byte addition (R153). -/
def loadHlSp (e8 : Byte) (s : State) : Res State :=
  pure { s.setHl (s.sp + sext16 e8) with f := spOffsetFlags s.sp e8 }

/-- `rr2[p] <- MemRead(SP, 2); SP <- SP + 2` (R155, R156). -/
def popPair (p : StackPair) (s : State) : Res State := do
  let (w, t) ← s.pop
  pure (t.setStackPair p w)

/-! ### One meaning per row of the table -/

/-- `LD BC,n16` (R150). -/
def execLdBcN16 (n16 : Word) (s : State) : Out := finish 3 (loadPair .bc n16 s)

/-- `LD (n16),SP` (R151). -/
def execLdAtN16Sp (n16 : Word) (s : State) : Out := finish 5 (storeSp n16 s)

/-- `LD DE,n16` (R150). -/
def execLdDeN16 (n16 : Word) (s : State) : Out := finish 3 (loadPair .de n16 s)

/-- `LD HL,n16` (R150). -/
def execLdHlN16 (n16 : Word) (s : State) : Out := finish 3 (loadPair .hl n16 s)

/-- `LD SP,n16` (R150). -/
def execLdSpN16 (n16 : Word) (s : State) : Out := finish 3 (loadPair .sp n16 s)

/-- `POP BC` (R155). -/
def execPopBc (s : State) : Out := finish 3 (popPair .bc s)

/-- `PUSH BC` (R154). -/
def execPushBc (s : State) : Out := finish 4 (s.push (s.stackPair .bc))

/-- `POP DE` (R155). -/
def execPopDe (s : State) : Out := finish 3 (popPair .de s)

/-- `PUSH DE` (R154). -/
def execPushDe (s : State) : Out := finish 4 (s.push (s.stackPair .de))

/-- `POP HL` (R155). -/
def execPopHl (s : State) : Out := finish 3 (popPair .hl s)

/-- `PUSH HL` (R154). -/
def execPushHl (s : State) : Out := finish 4 (s.push (s.stackPair .hl))

/-- `POP AF` (R156). -/
def execPopAf (s : State) : Out := finish 3 (popPair .af s)

/-- `PUSH AF` (R154). -/
def execPushAf (s : State) : Out := finish 4 (s.push (s.stackPair .af))

/-- `LD HL,SP+e8` (R153). -/
def execLdHlSpE8 (e8 : Byte) (s : State) : Out := finish 3 (loadHlSp e8 s)

/-- `LD SP,HL` (R152). -/
def execLdSpHl (s : State) : Out := finish 2 (copyHlToSp s)

end Sys2Proof.Machine
end

