-- ==== Sys2Proof/Machine/Load8.lean ====
section
/-! DEFINITION. 8-bit loads and stores (spec 40_load8.md R120 to R138). No rule of this family reads or writes F. -/

namespace Sys2Proof.Machine

/-- `x[dst] <- x[r]` (R120). -/
def copyReg (dst r : Reg8) (s : State) : Res State := pure (s.setReg dst (s.reg r))

/-- `x[dst] <- n8` (R121). -/
def loadImm (dst : Reg8) (n8 : Byte) (s : State) : Res State := pure (s.setReg dst n8)

/-- `x[dst] <- MemRead(addr, 1)` (R122, R125, R126, R129, R131, R133). -/
def loadMem (dst : Reg8) (addr : Word) (s : State) : Res State := do
  let (v, t) ← s.readByte addr
  pure (t.setReg dst v)

/-- `MemWrite(addr, 1, v)` (R124). -/
def storeByte (addr : Word) (v : Byte) (s : State) : Res State := s.writeByte addr v

/-- `MemWrite(addr, 1, x[r])` (R123, R127, R128, R130, R132, R134). -/
def storeReg (addr : Word) (r : Reg8) (s : State) : Res State := s.writeByte addr (s.reg r)

/-- `MemWrite(HL, 1, A); HL <- HL + delta` (R135, R136). -/
def storeAStep (delta : Word) (s : State) : Res State := do
  let t ← s.writeByte s.hl s.a
  pure (t.setHl (t.hl + delta))

/-- `A <- MemRead(HL, 1); HL <- HL + delta` (R137, R138). -/
def loadAStep (delta : Word) (s : State) : Res State := do
  let (v, t) ← s.readByte s.hl
  let t := t.setReg .a v
  pure (t.setHl (t.hl + delta))

/-! ### One meaning per row of the table -/

/-- `LD (BC),A` (R127). -/
def execLdAtBcA (s : State) : Out := finish 2 (storeReg s.bc .a s)

/-- `LD B,n8` (R121). -/
def execLdBN8 (n8 : Byte) (s : State) : Out := finish 2 (loadImm .b n8 s)

/-- `LD A,(BC)` (R125). -/
def execLdAAtBc (s : State) : Out := finish 2 (loadMem .a s.bc s)

/-- `LD C,n8` (R121). -/
def execLdCN8 (n8 : Byte) (s : State) : Out := finish 2 (loadImm .c n8 s)

/-- `LD (DE),A` (R128). -/
def execLdAtDeA (s : State) : Out := finish 2 (storeReg s.de .a s)

/-- `LD D,n8` (R121). -/
def execLdDN8 (n8 : Byte) (s : State) : Out := finish 2 (loadImm .d n8 s)

/-- `LD A,(DE)` (R126). -/
def execLdAAtDe (s : State) : Out := finish 2 (loadMem .a s.de s)

/-- `LD E,n8` (R121). -/
def execLdEN8 (n8 : Byte) (s : State) : Out := finish 2 (loadImm .e n8 s)

/-- `LD (HL+),A` (R135). -/
def execLdAtHliA (s : State) : Out := finish 2 (storeAStep 1#16 s)

/-- `LD H,n8` (R121). -/
def execLdHN8 (n8 : Byte) (s : State) : Out := finish 2 (loadImm .h n8 s)

/-- `LD A,(HL+)` (R137). -/
def execLdAAtHli (s : State) : Out := finish 2 (loadAStep 1#16 s)

/-- `LD L,n8` (R121). -/
def execLdLN8 (n8 : Byte) (s : State) : Out := finish 2 (loadImm .l n8 s)

/-- `LD (HL-),A` (R136). -/
def execLdAtHldA (s : State) : Out := finish 2 (storeAStep (-1#16) s)

/-- `LD (HL),n8` (R124). -/
def execLdAtHlN8 (n8 : Byte) (s : State) : Out := finish 3 (storeByte s.hl n8 s)

/-- `LD A,(HL-)` (R138). -/
def execLdAAtHld (s : State) : Out := finish 2 (loadAStep (-1#16) s)

/-- `LD A,n8` (R121). -/
def execLdAN8 (n8 : Byte) (s : State) : Out := finish 2 (loadImm .a n8 s)

/-- `LD B,B` (R120). -/
def execLdBB (s : State) : Out := finish 1 (copyReg .b .b s)

/-- `LD B,C` (R120). -/
def execLdBC (s : State) : Out := finish 1 (copyReg .b .c s)

/-- `LD B,D` (R120). -/
def execLdBD (s : State) : Out := finish 1 (copyReg .b .d s)

/-- `LD B,E` (R120). -/
def execLdBE (s : State) : Out := finish 1 (copyReg .b .e s)

/-- `LD B,H` (R120). -/
def execLdBH (s : State) : Out := finish 1 (copyReg .b .h s)

/-- `LD B,L` (R120). -/
def execLdBL (s : State) : Out := finish 1 (copyReg .b .l s)

/-- `LD B,(HL)` (R122). -/
def execLdBAtHl (s : State) : Out := finish 2 (loadMem .b s.hl s)

/-- `LD B,A` (R120). -/
def execLdBA (s : State) : Out := finish 1 (copyReg .b .a s)

/-- `LD C,B` (R120). -/
def execLdCB (s : State) : Out := finish 1 (copyReg .c .b s)

/-- `LD C,C` (R120). -/
def execLdCC (s : State) : Out := finish 1 (copyReg .c .c s)

/-- `LD C,D` (R120). -/
def execLdCD (s : State) : Out := finish 1 (copyReg .c .d s)

/-- `LD C,E` (R120). -/
def execLdCE (s : State) : Out := finish 1 (copyReg .c .e s)

/-- `LD C,H` (R120). -/
def execLdCH (s : State) : Out := finish 1 (copyReg .c .h s)

/-- `LD C,L` (R120). -/
def execLdCL (s : State) : Out := finish 1 (copyReg .c .l s)

/-- `LD C,(HL)` (R122). -/
def execLdCAtHl (s : State) : Out := finish 2 (loadMem .c s.hl s)

/-- `LD C,A` (R120). -/
def execLdCA (s : State) : Out := finish 1 (copyReg .c .a s)

/-- `LD D,B` (R120). -/
def execLdDB (s : State) : Out := finish 1 (copyReg .d .b s)

/-- `LD D,C` (R120). -/
def execLdDC (s : State) : Out := finish 1 (copyReg .d .c s)

/-- `LD D,D` (R120). -/
def execLdDD (s : State) : Out := finish 1 (copyReg .d .d s)

/-- `LD D,E` (R120). -/
def execLdDE (s : State) : Out := finish 1 (copyReg .d .e s)

/-- `LD D,H` (R120). -/
def execLdDH (s : State) : Out := finish 1 (copyReg .d .h s)

/-- `LD D,L` (R120). -/
def execLdDL (s : State) : Out := finish 1 (copyReg .d .l s)

/-- `LD D,(HL)` (R122). -/
def execLdDAtHl (s : State) : Out := finish 2 (loadMem .d s.hl s)

/-- `LD D,A` (R120). -/
def execLdDA (s : State) : Out := finish 1 (copyReg .d .a s)

/-- `LD E,B` (R120). -/
def execLdEB (s : State) : Out := finish 1 (copyReg .e .b s)

/-- `LD E,C` (R120). -/
def execLdEC (s : State) : Out := finish 1 (copyReg .e .c s)

/-- `LD E,D` (R120). -/
def execLdED (s : State) : Out := finish 1 (copyReg .e .d s)

/-- `LD E,E` (R120). -/
def execLdEE (s : State) : Out := finish 1 (copyReg .e .e s)

/-- `LD E,H` (R120). -/
def execLdEH (s : State) : Out := finish 1 (copyReg .e .h s)

/-- `LD E,L` (R120). -/
def execLdEL (s : State) : Out := finish 1 (copyReg .e .l s)

/-- `LD E,(HL)` (R122). -/
def execLdEAtHl (s : State) : Out := finish 2 (loadMem .e s.hl s)

/-- `LD E,A` (R120). -/
def execLdEA (s : State) : Out := finish 1 (copyReg .e .a s)

/-- `LD H,B` (R120). -/
def execLdHB (s : State) : Out := finish 1 (copyReg .h .b s)

/-- `LD H,C` (R120). -/
def execLdHC (s : State) : Out := finish 1 (copyReg .h .c s)

/-- `LD H,D` (R120). -/
def execLdHD (s : State) : Out := finish 1 (copyReg .h .d s)

/-- `LD H,E` (R120). -/
def execLdHE (s : State) : Out := finish 1 (copyReg .h .e s)

/-- `LD H,H` (R120). -/
def execLdHH (s : State) : Out := finish 1 (copyReg .h .h s)

/-- `LD H,L` (R120). -/
def execLdHL (s : State) : Out := finish 1 (copyReg .h .l s)

/-- `LD H,(HL)` (R122). -/
def execLdHAtHl (s : State) : Out := finish 2 (loadMem .h s.hl s)

/-- `LD H,A` (R120). -/
def execLdHA (s : State) : Out := finish 1 (copyReg .h .a s)

/-- `LD L,B` (R120). -/
def execLdLB (s : State) : Out := finish 1 (copyReg .l .b s)

/-- `LD L,C` (R120). -/
def execLdLC (s : State) : Out := finish 1 (copyReg .l .c s)

/-- `LD L,D` (R120). -/
def execLdLD (s : State) : Out := finish 1 (copyReg .l .d s)

/-- `LD L,E` (R120). -/
def execLdLE (s : State) : Out := finish 1 (copyReg .l .e s)

/-- `LD L,H` (R120). -/
def execLdLH (s : State) : Out := finish 1 (copyReg .l .h s)

/-- `LD L,L` (R120). -/
def execLdLL (s : State) : Out := finish 1 (copyReg .l .l s)

/-- `LD L,(HL)` (R122). -/
def execLdLAtHl (s : State) : Out := finish 2 (loadMem .l s.hl s)

/-- `LD L,A` (R120). -/
def execLdLA (s : State) : Out := finish 1 (copyReg .l .a s)

/-- `LD (HL),B` (R123). -/
def execLdAtHlB (s : State) : Out := finish 2 (storeReg s.hl .b s)

/-- `LD (HL),C` (R123). -/
def execLdAtHlC (s : State) : Out := finish 2 (storeReg s.hl .c s)

/-- `LD (HL),D` (R123). -/
def execLdAtHlD (s : State) : Out := finish 2 (storeReg s.hl .d s)

/-- `LD (HL),E` (R123). -/
def execLdAtHlE (s : State) : Out := finish 2 (storeReg s.hl .e s)

/-- `LD (HL),H` (R123). -/
def execLdAtHlH (s : State) : Out := finish 2 (storeReg s.hl .h s)

/-- `LD (HL),L` (R123). -/
def execLdAtHlL (s : State) : Out := finish 2 (storeReg s.hl .l s)

/-- `LD (HL),A` (R123). -/
def execLdAtHlA (s : State) : Out := finish 2 (storeReg s.hl .a s)

/-- `LD A,B` (R120). -/
def execLdAB (s : State) : Out := finish 1 (copyReg .a .b s)

/-- `LD A,C` (R120). -/
def execLdAC (s : State) : Out := finish 1 (copyReg .a .c s)

/-- `LD A,D` (R120). -/
def execLdAD (s : State) : Out := finish 1 (copyReg .a .d s)

/-- `LD A,E` (R120). -/
def execLdAE (s : State) : Out := finish 1 (copyReg .a .e s)

/-- `LD A,H` (R120). -/
def execLdAH (s : State) : Out := finish 1 (copyReg .a .h s)

/-- `LD A,L` (R120). -/
def execLdAL (s : State) : Out := finish 1 (copyReg .a .l s)

/-- `LD A,(HL)` (R122). -/
def execLdAAtHl (s : State) : Out := finish 2 (loadMem .a s.hl s)

/-- `LD A,A` (R120). -/
def execLdAA (s : State) : Out := finish 1 (copyReg .a .a s)

/-- `LDH (n8),A` (R132). -/
def execLdhAtN8A (n8 : Byte) (s : State) : Out := finish 3 (storeReg (highPage n8) .a s)

/-- `LDH (C),A` (R134). -/
def execLdhAtCA (s : State) : Out := finish 2 (storeReg (highPage s.c) .a s)

/-- `LD (n16),A` (R130). -/
def execLdAtN16A (n16 : Word) (s : State) : Out := finish 4 (storeReg n16 .a s)

/-- `LDH A,(n8)` (R131). -/
def execLdhAAtN8 (n8 : Byte) (s : State) : Out := finish 3 (loadMem .a (highPage n8) s)

/-- `LDH A,(C)` (R133). -/
def execLdhAAtC (s : State) : Out := finish 2 (loadMem .a (highPage s.c) s)

/-- `LD A,(n16)` (R129). -/
def execLdAAtN16 (n16 : Word) (s : State) : Out := finish 4 (loadMem .a n16 s)

end Sys2Proof.Machine
end

