-- ==== Sys2Proof/Machine/Rotate.lean ====
section
/-! DEFINITION. Rotates, shifts and swap (spec 44_rotate_shift.md R220 to R240). -/

namespace Sys2Proof.Machine

/-- The accumulator rotates `RLCA RRCA RLA RRA`: Z is always cleared (R220 to R223). -/
def rotateA (op : RotOp) (s : State) : Res State :=
  pure { s with a := op.result s.a (flagC s.f), f := op.accFlags s.a }

/-- `rot[y] r` (R224, R225, R227, R229, R231, R233, R235, R237, R239). -/
def rotateReg (op : RotOp) (r : Reg8) (s : State) : Res State :=
  pure { s.setReg r (op.result (s.reg r) (flagC s.f)) with f := op.flags (s.reg r) (flagC s.f) }

/-- `rot[y] (HL)` (R224, R226, R228, R230, R232, R234, R236, R238, R240). -/
def rotateMem (op : RotOp) (s : State) : Res State := do
  let (v, t) ← s.readByte s.hl
  let t ← t.writeByte t.hl (op.result v (flagC t.f))
  pure { t with f := op.flags v (flagC t.f) }

/-! ### One meaning per row of the table -/

/-- `RLCA` (R220). -/
def execRlca (s : State) : Out := finish 1 (rotateA .rlc s)

/-- `RRCA` (R221). -/
def execRrca (s : State) : Out := finish 1 (rotateA .rrc s)

/-- `RLA` (R222). -/
def execRla (s : State) : Out := finish 1 (rotateA .rl s)

/-- `RRA` (R223). -/
def execRra (s : State) : Out := finish 1 (rotateA .rr s)

/-- `RLC B` (R225). -/
def execRlcB (s : State) : Out := finish 2 (rotateReg .rlc .b s)

/-- `RLC C` (R225). -/
def execRlcC (s : State) : Out := finish 2 (rotateReg .rlc .c s)

/-- `RLC D` (R225). -/
def execRlcD (s : State) : Out := finish 2 (rotateReg .rlc .d s)

/-- `RLC E` (R225). -/
def execRlcE (s : State) : Out := finish 2 (rotateReg .rlc .e s)

/-- `RLC H` (R225). -/
def execRlcH (s : State) : Out := finish 2 (rotateReg .rlc .h s)

/-- `RLC L` (R225). -/
def execRlcL (s : State) : Out := finish 2 (rotateReg .rlc .l s)

/-- `RLC (HL)` (R226). -/
def execRlcAtHl (s : State) : Out := finish 4 (rotateMem .rlc s)

/-- `RLC A` (R225). -/
def execRlcA (s : State) : Out := finish 2 (rotateReg .rlc .a s)

/-- `RRC B` (R227). -/
def execRrcB (s : State) : Out := finish 2 (rotateReg .rrc .b s)

/-- `RRC C` (R227). -/
def execRrcC (s : State) : Out := finish 2 (rotateReg .rrc .c s)

/-- `RRC D` (R227). -/
def execRrcD (s : State) : Out := finish 2 (rotateReg .rrc .d s)

/-- `RRC E` (R227). -/
def execRrcE (s : State) : Out := finish 2 (rotateReg .rrc .e s)

/-- `RRC H` (R227). -/
def execRrcH (s : State) : Out := finish 2 (rotateReg .rrc .h s)

/-- `RRC L` (R227). -/
def execRrcL (s : State) : Out := finish 2 (rotateReg .rrc .l s)

/-- `RRC (HL)` (R228). -/
def execRrcAtHl (s : State) : Out := finish 4 (rotateMem .rrc s)

/-- `RRC A` (R227). -/
def execRrcA (s : State) : Out := finish 2 (rotateReg .rrc .a s)

/-- `RL B` (R229). -/
def execRlB (s : State) : Out := finish 2 (rotateReg .rl .b s)

/-- `RL C` (R229). -/
def execRlC (s : State) : Out := finish 2 (rotateReg .rl .c s)

/-- `RL D` (R229). -/
def execRlD (s : State) : Out := finish 2 (rotateReg .rl .d s)

/-- `RL E` (R229). -/
def execRlE (s : State) : Out := finish 2 (rotateReg .rl .e s)

/-- `RL H` (R229). -/
def execRlH (s : State) : Out := finish 2 (rotateReg .rl .h s)

/-- `RL L` (R229). -/
def execRlL (s : State) : Out := finish 2 (rotateReg .rl .l s)

/-- `RL (HL)` (R230). -/
def execRlAtHl (s : State) : Out := finish 4 (rotateMem .rl s)

/-- `RL A` (R229). -/
def execRlA (s : State) : Out := finish 2 (rotateReg .rl .a s)

/-- `RR B` (R231). -/
def execRrB (s : State) : Out := finish 2 (rotateReg .rr .b s)

/-- `RR C` (R231). -/
def execRrC (s : State) : Out := finish 2 (rotateReg .rr .c s)

/-- `RR D` (R231). -/
def execRrD (s : State) : Out := finish 2 (rotateReg .rr .d s)

/-- `RR E` (R231). -/
def execRrE (s : State) : Out := finish 2 (rotateReg .rr .e s)

/-- `RR H` (R231). -/
def execRrH (s : State) : Out := finish 2 (rotateReg .rr .h s)

/-- `RR L` (R231). -/
def execRrL (s : State) : Out := finish 2 (rotateReg .rr .l s)

/-- `RR (HL)` (R232). -/
def execRrAtHl (s : State) : Out := finish 4 (rotateMem .rr s)

/-- `RR A` (R231). -/
def execRrA (s : State) : Out := finish 2 (rotateReg .rr .a s)

/-- `SLA B` (R233). -/
def execSlaB (s : State) : Out := finish 2 (rotateReg .sla .b s)

/-- `SLA C` (R233). -/
def execSlaC (s : State) : Out := finish 2 (rotateReg .sla .c s)

/-- `SLA D` (R233). -/
def execSlaD (s : State) : Out := finish 2 (rotateReg .sla .d s)

/-- `SLA E` (R233). -/
def execSlaE (s : State) : Out := finish 2 (rotateReg .sla .e s)

/-- `SLA H` (R233). -/
def execSlaH (s : State) : Out := finish 2 (rotateReg .sla .h s)

/-- `SLA L` (R233). -/
def execSlaL (s : State) : Out := finish 2 (rotateReg .sla .l s)

/-- `SLA (HL)` (R234). -/
def execSlaAtHl (s : State) : Out := finish 4 (rotateMem .sla s)

/-- `SLA A` (R233). -/
def execSlaA (s : State) : Out := finish 2 (rotateReg .sla .a s)

/-- `SRA B` (R235). -/
def execSraB (s : State) : Out := finish 2 (rotateReg .sra .b s)

/-- `SRA C` (R235). -/
def execSraC (s : State) : Out := finish 2 (rotateReg .sra .c s)

/-- `SRA D` (R235). -/
def execSraD (s : State) : Out := finish 2 (rotateReg .sra .d s)

/-- `SRA E` (R235). -/
def execSraE (s : State) : Out := finish 2 (rotateReg .sra .e s)

/-- `SRA H` (R235). -/
def execSraH (s : State) : Out := finish 2 (rotateReg .sra .h s)

/-- `SRA L` (R235). -/
def execSraL (s : State) : Out := finish 2 (rotateReg .sra .l s)

/-- `SRA (HL)` (R236). -/
def execSraAtHl (s : State) : Out := finish 4 (rotateMem .sra s)

/-- `SRA A` (R235). -/
def execSraA (s : State) : Out := finish 2 (rotateReg .sra .a s)

/-- `SWAP B` (R237). -/
def execSwapB (s : State) : Out := finish 2 (rotateReg .swap .b s)

/-- `SWAP C` (R237). -/
def execSwapC (s : State) : Out := finish 2 (rotateReg .swap .c s)

/-- `SWAP D` (R237). -/
def execSwapD (s : State) : Out := finish 2 (rotateReg .swap .d s)

/-- `SWAP E` (R237). -/
def execSwapE (s : State) : Out := finish 2 (rotateReg .swap .e s)

/-- `SWAP H` (R237). -/
def execSwapH (s : State) : Out := finish 2 (rotateReg .swap .h s)

/-- `SWAP L` (R237). -/
def execSwapL (s : State) : Out := finish 2 (rotateReg .swap .l s)

/-- `SWAP (HL)` (R238). -/
def execSwapAtHl (s : State) : Out := finish 4 (rotateMem .swap s)

/-- `SWAP A` (R237). -/
def execSwapA (s : State) : Out := finish 2 (rotateReg .swap .a s)

/-- `SRL B` (R239). -/
def execSrlB (s : State) : Out := finish 2 (rotateReg .srl .b s)

/-- `SRL C` (R239). -/
def execSrlC (s : State) : Out := finish 2 (rotateReg .srl .c s)

/-- `SRL D` (R239). -/
def execSrlD (s : State) : Out := finish 2 (rotateReg .srl .d s)

/-- `SRL E` (R239). -/
def execSrlE (s : State) : Out := finish 2 (rotateReg .srl .e s)

/-- `SRL H` (R239). -/
def execSrlH (s : State) : Out := finish 2 (rotateReg .srl .h s)

/-- `SRL L` (R239). -/
def execSrlL (s : State) : Out := finish 2 (rotateReg .srl .l s)

/-- `SRL (HL)` (R240). -/
def execSrlAtHl (s : State) : Out := finish 4 (rotateMem .srl s)

/-- `SRL A` (R239). -/
def execSrlA (s : State) : Out := finish 2 (rotateReg .srl .a s)

end Sys2Proof.Machine
end

