-- ==== Sys2Proof/Machine/Misc.lean ====
section
/-! DEFINITION. Miscellaneous and system instructions, the prefix row and the illegal opcodes (spec 47_misc.md R280
to R286; 60_exceptions.md R304, R305, R325 to R327). -/

namespace Sys2Proof.Machine

/-- `HALT` and `STOP`: with the extension the machine halts (R325, R326); in the base core they are the fatal
condition `UnimplementedInstruction` at the address of the opcode, `len` bytes before pc (R281, R282, R305). -/
def enterHalt (op : Byte) (len : Word) (s : State) : Out :=
  if s.interruptExt then finish 1 (pure { s with halted := true })
  else .fault (.unimplementedInstruction op (s.pc - len))

/-- `DI` (R283, R327): nothing in the base core. -/
def disableInterrupts (s : State) : Res State :=
  pure (if s.interruptExt then { s with ime := false, eiPending := false } else s)

/-- `EI` (R284, R327): nothing in the base core; `ime` becomes 1 after the next instruction (R324). -/
def enableInterrupts (s : State) : Res State :=
  pure (if s.interruptExt then { s with eiPending := true } else s)

/-- The eleven illegal opcodes: `InvalidOpcode` at the address of the opcode, one byte before pc (R286, R304). -/
def illegalOpcode (op : Byte) (s : State) : Out := .fault (.invalidOpcode op (s.pc - 1#16))

/-- The table `rot` by its code (30_encoding.md R98). -/
def rotOfCode : Nat → RotOp
  | 0 => .rlc
  | 1 => .rrc
  | 2 => .rl
  | 3 => .rr
  | 4 => .sla
  | 5 => .sra
  | 6 => .swap
  | _ => .srl

/-- The prefix row (R285): the extended instruction that the fields x, y, z of `ext` select (30_encoding.md R104),
with its own cost. -/
def runExtended (ext : Byte) (s : State) : Out :=
  let y := fieldY ext
  let b : Fin 8 := Fin.ofNat 8 y
  match fieldX ext, reg8OfCode (fieldZ ext) with
  | 0, some r => finish 2 (rotateReg (rotOfCode y) r s)
  | 0, none => finish 4 (rotateMem (rotOfCode y) s)
  | 1, some r => finish 2 (testBitReg b r s)
  | 1, none => finish 3 (testBitMem b s)
  | 2, some r => finish 2 (clearBitReg b r s)
  | 2, none => finish 4 (clearBitMem b s)
  | _, some r => finish 2 (setBitReg b r s)
  | _, none => finish 4 (setBitMem b s)

/-! ### One meaning per row of the table -/

/-- `NOP` (R280). -/
def execNop (s : State) : Out := finish 1 (pure s)

/-- `STOP` (R281). -/
def execStop (_ : Byte) (s : State) : Out := enterHalt 0x10#8 2#16 s

/-- `HALT` (R282). -/
def execHalt (s : State) : Out := enterHalt 0x76#8 1#16 s

/-- `PREFIX CB` (R285). -/
def execPrefixCb (ext : Byte) (s : State) : Out := runExtended ext s

/-- `ILLEGAL_D3` (R286). -/
def execIllegalD3 (s : State) : Out := illegalOpcode 0xD3#8 s

/-- `ILLEGAL_DB` (R286). -/
def execIllegalDB (s : State) : Out := illegalOpcode 0xDB#8 s

/-- `ILLEGAL_DD` (R286). -/
def execIllegalDD (s : State) : Out := illegalOpcode 0xDD#8 s

/-- `ILLEGAL_E3` (R286). -/
def execIllegalE3 (s : State) : Out := illegalOpcode 0xE3#8 s

/-- `ILLEGAL_E4` (R286). -/
def execIllegalE4 (s : State) : Out := illegalOpcode 0xE4#8 s

/-- `ILLEGAL_EB` (R286). -/
def execIllegalEB (s : State) : Out := illegalOpcode 0xEB#8 s

/-- `ILLEGAL_EC` (R286). -/
def execIllegalEC (s : State) : Out := illegalOpcode 0xEC#8 s

/-- `ILLEGAL_ED` (R286). -/
def execIllegalED (s : State) : Out := illegalOpcode 0xED#8 s

/-- `DI` (R283). -/
def execDi (s : State) : Out := finish 1 (disableInterrupts s)

/-- `ILLEGAL_F4` (R286). -/
def execIllegalF4 (s : State) : Out := illegalOpcode 0xF4#8 s

/-- `EI` (R284). -/
def execEi (s : State) : Out := finish 1 (enableInterrupts s)

/-- `ILLEGAL_FC` (R286). -/
def execIllegalFC (s : State) : Out := illegalOpcode 0xFC#8 s

/-- `ILLEGAL_FD` (R286). -/
def execIllegalFD (s : State) : Out := illegalOpcode 0xFD#8 s

end Sys2Proof.Machine
end

