-- ==== Sys2Proof/Syntax.lean ====
section
/-! DEFINITION. The instructions: one constructor per row of spec/opcode_table.json, the rows with operand bytes
(`n8`, `e8`, `n16`: 30_encoding.md R91, R97) first, then those without, each group in the table's order (R109): Lean's
compiler wants the constructors with fields among the first 244. The row `PREFIX CB` is `prefixCb`, whose operand is the extended opcode (47_misc.md R285). -/

namespace Sys2Proof

/-- One constructor per row of the opcode table; the comment gives its opcode, its mnemonic and its rule. -/
inductive Instr where
  /-- 0x01 `LD BC,n16` (R150) -/
  | ldBcN16 (n16 : Word)
  /-- 0x06 `LD B,n8` (R121) -/
  | ldBN8 (n8 : Byte)
  /-- 0x08 `LD (n16),SP` (R151) -/
  | ldAtN16Sp (n16 : Word)
  /-- 0x0E `LD C,n8` (R121) -/
  | ldCN8 (n8 : Byte)
  /-- 0x10 `STOP` (R281) -/
  | stop (n8 : Byte)
  /-- 0x11 `LD DE,n16` (R150) -/
  | ldDeN16 (n16 : Word)
  /-- 0x16 `LD D,n8` (R121) -/
  | ldDN8 (n8 : Byte)
  /-- 0x18 `JR e8` (R264) -/
  | jrE8 (e8 : Byte)
  /-- 0x1E `LD E,n8` (R121) -/
  | ldEN8 (n8 : Byte)
  /-- 0x20 `JR NZ,e8` (R265) -/
  | jrNzE8 (e8 : Byte)
  /-- 0x21 `LD HL,n16` (R150) -/
  | ldHlN16 (n16 : Word)
  /-- 0x26 `LD H,n8` (R121) -/
  | ldHN8 (n8 : Byte)
  /-- 0x28 `JR Z,e8` (R265) -/
  | jrZE8 (e8 : Byte)
  /-- 0x2E `LD L,n8` (R121) -/
  | ldLN8 (n8 : Byte)
  /-- 0x30 `JR NC,e8` (R265) -/
  | jrNcE8 (e8 : Byte)
  /-- 0x31 `LD SP,n16` (R150) -/
  | ldSpN16 (n16 : Word)
  /-- 0x36 `LD (HL),n8` (R124) -/
  | ldAtHlN8 (n8 : Byte)
  /-- 0x38 `JR C,e8` (R265) -/
  | jrCE8 (e8 : Byte)
  /-- 0x3E `LD A,n8` (R121) -/
  | ldAN8 (n8 : Byte)
  /-- 0xC2 `JP NZ,n16` (R262) -/
  | jpNzN16 (n16 : Word)
  /-- 0xC3 `JP n16` (R261) -/
  | jpN16 (n16 : Word)
  /-- 0xC4 `CALL NZ,n16` (R267) -/
  | callNzN16 (n16 : Word)
  /-- 0xC6 `ADD A,n8` (R168) -/
  | addN8 (n8 : Byte)
  /-- 0xCA `JP Z,n16` (R262) -/
  | jpZN16 (n16 : Word)
  /-- 0xCB `PREFIX CB` (R285) -/
  | prefixCb (ext : Byte)
  /-- 0xCC `CALL Z,n16` (R267) -/
  | callZN16 (n16 : Word)
  /-- 0xCD `CALL n16` (R266) -/
  | callN16 (n16 : Word)
  /-- 0xCE `ADC A,n8` (R171) -/
  | adcN8 (n8 : Byte)
  /-- 0xD2 `JP NC,n16` (R262) -/
  | jpNcN16 (n16 : Word)
  /-- 0xD4 `CALL NC,n16` (R267) -/
  | callNcN16 (n16 : Word)
  /-- 0xD6 `SUB n8` (R174) -/
  | subN8 (n8 : Byte)
  /-- 0xDA `JP C,n16` (R262) -/
  | jpCN16 (n16 : Word)
  /-- 0xDC `CALL C,n16` (R267) -/
  | callCN16 (n16 : Word)
  /-- 0xDE `SBC A,n8` (R177) -/
  | sbcN8 (n8 : Byte)
  /-- 0xE0 `LDH (n8),A` (R132) -/
  | ldhAtN8A (n8 : Byte)
  /-- 0xE6 `AND n8` (R180) -/
  | andN8 (n8 : Byte)
  /-- 0xE8 `ADD SP,e8` (R213) -/
  | addSpE8 (e8 : Byte)
  /-- 0xEA `LD (n16),A` (R130) -/
  | ldAtN16A (n16 : Word)
  /-- 0xEE `XOR n8` (R183) -/
  | xorN8 (n8 : Byte)
  /-- 0xF0 `LDH A,(n8)` (R131) -/
  | ldhAAtN8 (n8 : Byte)
  /-- 0xF6 `OR n8` (R186) -/
  | orN8 (n8 : Byte)
  /-- 0xF8 `LD HL,SP+e8` (R153) -/
  | ldHlSpE8 (e8 : Byte)
  /-- 0xFA `LD A,(n16)` (R129) -/
  | ldAAtN16 (n16 : Word)
  /-- 0xFE `CP n8` (R189) -/
  | cpN8 (n8 : Byte)
  /-- 0x00 `NOP` (R280) -/
  | nop
  /-- 0x02 `LD (BC),A` (R127) -/
  | ldAtBcA
  /-- 0x03 `INC BC` (R211) -/
  | incBc
  /-- 0x04 `INC B` (R190) -/
  | incB
  /-- 0x05 `DEC B` (R192) -/
  | decB
  /-- 0x07 `RLCA` (R220) -/
  | rlca
  /-- 0x09 `ADD HL,BC` (R210) -/
  | addHlBc
  /-- 0x0A `LD A,(BC)` (R125) -/
  | ldAAtBc
  /-- 0x0B `DEC BC` (R212) -/
  | decBc
  /-- 0x0C `INC C` (R190) -/
  | incC
  /-- 0x0D `DEC C` (R192) -/
  | decC
  /-- 0x0F `RRCA` (R221) -/
  | rrca
  /-- 0x12 `LD (DE),A` (R128) -/
  | ldAtDeA
  /-- 0x13 `INC DE` (R211) -/
  | incDe
  /-- 0x14 `INC D` (R190) -/
  | incD
  /-- 0x15 `DEC D` (R192) -/
  | decD
  /-- 0x17 `RLA` (R222) -/
  | rla
  /-- 0x19 `ADD HL,DE` (R210) -/
  | addHlDe
  /-- 0x1A `LD A,(DE)` (R126) -/
  | ldAAtDe
  /-- 0x1B `DEC DE` (R212) -/
  | decDe
  /-- 0x1C `INC E` (R190) -/
  | incE
  /-- 0x1D `DEC E` (R192) -/
  | decE
  /-- 0x1F `RRA` (R223) -/
  | rra
  /-- 0x22 `LD (HL+),A` (R135) -/
  | ldAtHliA
  /-- 0x23 `INC HL` (R211) -/
  | incHl
  /-- 0x24 `INC H` (R190) -/
  | incH
  /-- 0x25 `DEC H` (R192) -/
  | decH
  /-- 0x27 `DAA` (R194) -/
  | daa
  /-- 0x29 `ADD HL,HL` (R210) -/
  | addHlHl
  /-- 0x2A `LD A,(HL+)` (R137) -/
  | ldAAtHli
  /-- 0x2B `DEC HL` (R212) -/
  | decHl
  /-- 0x2C `INC L` (R190) -/
  | incL
  /-- 0x2D `DEC L` (R192) -/
  | decL
  /-- 0x2F `CPL` (R195) -/
  | cpl
  /-- 0x32 `LD (HL-),A` (R136) -/
  | ldAtHldA
  /-- 0x33 `INC SP` (R211) -/
  | incSp
  /-- 0x34 `INC (HL)` (R191) -/
  | incAtHl
  /-- 0x35 `DEC (HL)` (R193) -/
  | decAtHl
  /-- 0x37 `SCF` (R196) -/
  | scf
  /-- 0x39 `ADD HL,SP` (R210) -/
  | addHlSp
  /-- 0x3A `LD A,(HL-)` (R138) -/
  | ldAAtHld
  /-- 0x3B `DEC SP` (R212) -/
  | decSp
  /-- 0x3C `INC A` (R190) -/
  | incA
  /-- 0x3D `DEC A` (R192) -/
  | decA
  /-- 0x3F `CCF` (R197) -/
  | ccf
  /-- 0x40 `LD B,B` (R120) -/
  | ldBB
  /-- 0x41 `LD B,C` (R120) -/
  | ldBC
  /-- 0x42 `LD B,D` (R120) -/
  | ldBD
  /-- 0x43 `LD B,E` (R120) -/
  | ldBE
  /-- 0x44 `LD B,H` (R120) -/
  | ldBH
  /-- 0x45 `LD B,L` (R120) -/
  | ldBL
  /-- 0x46 `LD B,(HL)` (R122) -/
  | ldBAtHl
  /-- 0x47 `LD B,A` (R120) -/
  | ldBA
  /-- 0x48 `LD C,B` (R120) -/
  | ldCB
  /-- 0x49 `LD C,C` (R120) -/
  | ldCC
  /-- 0x4A `LD C,D` (R120) -/
  | ldCD
  /-- 0x4B `LD C,E` (R120) -/
  | ldCE
  /-- 0x4C `LD C,H` (R120) -/
  | ldCH
  /-- 0x4D `LD C,L` (R120) -/
  | ldCL
  /-- 0x4E `LD C,(HL)` (R122) -/
  | ldCAtHl
  /-- 0x4F `LD C,A` (R120) -/
  | ldCA
  /-- 0x50 `LD D,B` (R120) -/
  | ldDB
  /-- 0x51 `LD D,C` (R120) -/
  | ldDC
  /-- 0x52 `LD D,D` (R120) -/
  | ldDD
  /-- 0x53 `LD D,E` (R120) -/
  | ldDE
  /-- 0x54 `LD D,H` (R120) -/
  | ldDH
  /-- 0x55 `LD D,L` (R120) -/
  | ldDL
  /-- 0x56 `LD D,(HL)` (R122) -/
  | ldDAtHl
  /-- 0x57 `LD D,A` (R120) -/
  | ldDA
  /-- 0x58 `LD E,B` (R120) -/
  | ldEB
  /-- 0x59 `LD E,C` (R120) -/
  | ldEC
  /-- 0x5A `LD E,D` (R120) -/
  | ldED
  /-- 0x5B `LD E,E` (R120) -/
  | ldEE
  /-- 0x5C `LD E,H` (R120) -/
  | ldEH
  /-- 0x5D `LD E,L` (R120) -/
  | ldEL
  /-- 0x5E `LD E,(HL)` (R122) -/
  | ldEAtHl
  /-- 0x5F `LD E,A` (R120) -/
  | ldEA
  /-- 0x60 `LD H,B` (R120) -/
  | ldHB
  /-- 0x61 `LD H,C` (R120) -/
  | ldHC
  /-- 0x62 `LD H,D` (R120) -/
  | ldHD
  /-- 0x63 `LD H,E` (R120) -/
  | ldHE
  /-- 0x64 `LD H,H` (R120) -/
  | ldHH
  /-- 0x65 `LD H,L` (R120) -/
  | ldHL
  /-- 0x66 `LD H,(HL)` (R122) -/
  | ldHAtHl
  /-- 0x67 `LD H,A` (R120) -/
  | ldHA
  /-- 0x68 `LD L,B` (R120) -/
  | ldLB
  /-- 0x69 `LD L,C` (R120) -/
  | ldLC
  /-- 0x6A `LD L,D` (R120) -/
  | ldLD
  /-- 0x6B `LD L,E` (R120) -/
  | ldLE
  /-- 0x6C `LD L,H` (R120) -/
  | ldLH
  /-- 0x6D `LD L,L` (R120) -/
  | ldLL
  /-- 0x6E `LD L,(HL)` (R122) -/
  | ldLAtHl
  /-- 0x6F `LD L,A` (R120) -/
  | ldLA
  /-- 0x70 `LD (HL),B` (R123) -/
  | ldAtHlB
  /-- 0x71 `LD (HL),C` (R123) -/
  | ldAtHlC
  /-- 0x72 `LD (HL),D` (R123) -/
  | ldAtHlD
  /-- 0x73 `LD (HL),E` (R123) -/
  | ldAtHlE
  /-- 0x74 `LD (HL),H` (R123) -/
  | ldAtHlH
  /-- 0x75 `LD (HL),L` (R123) -/
  | ldAtHlL
  /-- 0x76 `HALT` (R282) -/
  | halt
  /-- 0x77 `LD (HL),A` (R123) -/
  | ldAtHlA
  /-- 0x78 `LD A,B` (R120) -/
  | ldAB
  /-- 0x79 `LD A,C` (R120) -/
  | ldAC
  /-- 0x7A `LD A,D` (R120) -/
  | ldAD
  /-- 0x7B `LD A,E` (R120) -/
  | ldAE
  /-- 0x7C `LD A,H` (R120) -/
  | ldAH
  /-- 0x7D `LD A,L` (R120) -/
  | ldAL
  /-- 0x7E `LD A,(HL)` (R122) -/
  | ldAAtHl
  /-- 0x7F `LD A,A` (R120) -/
  | ldAA
  /-- 0x80 `ADD A,B` (R166) -/
  | addB
  /-- 0x81 `ADD A,C` (R166) -/
  | addC
  /-- 0x82 `ADD A,D` (R166) -/
  | addD
  /-- 0x83 `ADD A,E` (R166) -/
  | addE
  /-- 0x84 `ADD A,H` (R166) -/
  | addH
  /-- 0x85 `ADD A,L` (R166) -/
  | addL
  /-- 0x86 `ADD A,(HL)` (R167) -/
  | addAtHl
  /-- 0x87 `ADD A,A` (R166) -/
  | addA
  /-- 0x88 `ADC A,B` (R169) -/
  | adcB
  /-- 0x89 `ADC A,C` (R169) -/
  | adcC
  /-- 0x8A `ADC A,D` (R169) -/
  | adcD
  /-- 0x8B `ADC A,E` (R169) -/
  | adcE
  /-- 0x8C `ADC A,H` (R169) -/
  | adcH
  /-- 0x8D `ADC A,L` (R169) -/
  | adcL
  /-- 0x8E `ADC A,(HL)` (R170) -/
  | adcAtHl
  /-- 0x8F `ADC A,A` (R169) -/
  | adcA
  /-- 0x90 `SUB B` (R172) -/
  | subB
  /-- 0x91 `SUB C` (R172) -/
  | subC
  /-- 0x92 `SUB D` (R172) -/
  | subD
  /-- 0x93 `SUB E` (R172) -/
  | subE
  /-- 0x94 `SUB H` (R172) -/
  | subH
  /-- 0x95 `SUB L` (R172) -/
  | subL
  /-- 0x96 `SUB (HL)` (R173) -/
  | subAtHl
  /-- 0x97 `SUB A` (R172) -/
  | subA
  /-- 0x98 `SBC A,B` (R175) -/
  | sbcB
  /-- 0x99 `SBC A,C` (R175) -/
  | sbcC
  /-- 0x9A `SBC A,D` (R175) -/
  | sbcD
  /-- 0x9B `SBC A,E` (R175) -/
  | sbcE
  /-- 0x9C `SBC A,H` (R175) -/
  | sbcH
  /-- 0x9D `SBC A,L` (R175) -/
  | sbcL
  /-- 0x9E `SBC A,(HL)` (R176) -/
  | sbcAtHl
  /-- 0x9F `SBC A,A` (R175) -/
  | sbcA
  /-- 0xA0 `AND B` (R178) -/
  | andB
  /-- 0xA1 `AND C` (R178) -/
  | andC
  /-- 0xA2 `AND D` (R178) -/
  | andD
  /-- 0xA3 `AND E` (R178) -/
  | andE
  /-- 0xA4 `AND H` (R178) -/
  | andH
  /-- 0xA5 `AND L` (R178) -/
  | andL
  /-- 0xA6 `AND (HL)` (R179) -/
  | andAtHl
  /-- 0xA7 `AND A` (R178) -/
  | andA
  /-- 0xA8 `XOR B` (R181) -/
  | xorB
  /-- 0xA9 `XOR C` (R181) -/
  | xorC
  /-- 0xAA `XOR D` (R181) -/
  | xorD
  /-- 0xAB `XOR E` (R181) -/
  | xorE
  /-- 0xAC `XOR H` (R181) -/
  | xorH
  /-- 0xAD `XOR L` (R181) -/
  | xorL
  /-- 0xAE `XOR (HL)` (R182) -/
  | xorAtHl
  /-- 0xAF `XOR A` (R181) -/
  | xorA
  /-- 0xB0 `OR B` (R184) -/
  | orB
  /-- 0xB1 `OR C` (R184) -/
  | orC
  /-- 0xB2 `OR D` (R184) -/
  | orD
  /-- 0xB3 `OR E` (R184) -/
  | orE
  /-- 0xB4 `OR H` (R184) -/
  | orH
  /-- 0xB5 `OR L` (R184) -/
  | orL
  /-- 0xB6 `OR (HL)` (R185) -/
  | orAtHl
  /-- 0xB7 `OR A` (R184) -/
  | orA
  /-- 0xB8 `CP B` (R187) -/
  | cpB
  /-- 0xB9 `CP C` (R187) -/
  | cpC
  /-- 0xBA `CP D` (R187) -/
  | cpD
  /-- 0xBB `CP E` (R187) -/
  | cpE
  /-- 0xBC `CP H` (R187) -/
  | cpH
  /-- 0xBD `CP L` (R187) -/
  | cpL
  /-- 0xBE `CP (HL)` (R188) -/
  | cpAtHl
  /-- 0xBF `CP A` (R187) -/
  | cpA
  /-- 0xC0 `RET NZ` (R269) -/
  | retNz
  /-- 0xC1 `POP BC` (R155) -/
  | popBc
  /-- 0xC5 `PUSH BC` (R154) -/
  | pushBc
  /-- 0xC7 `RST $00` (R271) -/
  | rst00
  /-- 0xC8 `RET Z` (R269) -/
  | retZ
  /-- 0xC9 `RET` (R268) -/
  | ret
  /-- 0xCF `RST $08` (R271) -/
  | rst08
  /-- 0xD0 `RET NC` (R269) -/
  | retNc
  /-- 0xD1 `POP DE` (R155) -/
  | popDe
  /-- 0xD3 `ILLEGAL_D3` (R286) -/
  | illegalD3
  /-- 0xD5 `PUSH DE` (R154) -/
  | pushDe
  /-- 0xD7 `RST $10` (R271) -/
  | rst10
  /-- 0xD8 `RET C` (R269) -/
  | retC
  /-- 0xD9 `RETI` (R270) -/
  | reti
  /-- 0xDB `ILLEGAL_DB` (R286) -/
  | illegalDB
  /-- 0xDD `ILLEGAL_DD` (R286) -/
  | illegalDD
  /-- 0xDF `RST $18` (R271) -/
  | rst18
  /-- 0xE1 `POP HL` (R155) -/
  | popHl
  /-- 0xE2 `LDH (C),A` (R134) -/
  | ldhAtCA
  /-- 0xE3 `ILLEGAL_E3` (R286) -/
  | illegalE3
  /-- 0xE4 `ILLEGAL_E4` (R286) -/
  | illegalE4
  /-- 0xE5 `PUSH HL` (R154) -/
  | pushHl
  /-- 0xE7 `RST $20` (R271) -/
  | rst20
  /-- 0xE9 `JP HL` (R263) -/
  | jpHl
  /-- 0xEB `ILLEGAL_EB` (R286) -/
  | illegalEB
  /-- 0xEC `ILLEGAL_EC` (R286) -/
  | illegalEC
  /-- 0xED `ILLEGAL_ED` (R286) -/
  | illegalED
  /-- 0xEF `RST $28` (R271) -/
  | rst28
  /-- 0xF1 `POP AF` (R156) -/
  | popAf
  /-- 0xF2 `LDH A,(C)` (R133) -/
  | ldhAAtC
  /-- 0xF3 `DI` (R283) -/
  | di
  /-- 0xF4 `ILLEGAL_F4` (R286) -/
  | illegalF4
  /-- 0xF5 `PUSH AF` (R154) -/
  | pushAf
  /-- 0xF7 `RST $30` (R271) -/
  | rst30
  /-- 0xF9 `LD SP,HL` (R152) -/
  | ldSpHl
  /-- 0xFB `EI` (R284) -/
  | ei
  /-- 0xFC `ILLEGAL_FC` (R286) -/
  | illegalFC
  /-- 0xFD `ILLEGAL_FD` (R286) -/
  | illegalFD
  /-- 0xFF `RST $38` (R271) -/
  | rst38
  /-- 0xCB 0x00 `RLC B` (R225) -/
  | rlcB
  /-- 0xCB 0x01 `RLC C` (R225) -/
  | rlcC
  /-- 0xCB 0x02 `RLC D` (R225) -/
  | rlcD
  /-- 0xCB 0x03 `RLC E` (R225) -/
  | rlcE
  /-- 0xCB 0x04 `RLC H` (R225) -/
  | rlcH
  /-- 0xCB 0x05 `RLC L` (R225) -/
  | rlcL
  /-- 0xCB 0x06 `RLC (HL)` (R226) -/
  | rlcAtHl
  /-- 0xCB 0x07 `RLC A` (R225) -/
  | rlcA
  /-- 0xCB 0x08 `RRC B` (R227) -/
  | rrcB
  /-- 0xCB 0x09 `RRC C` (R227) -/
  | rrcC
  /-- 0xCB 0x0A `RRC D` (R227) -/
  | rrcD
  /-- 0xCB 0x0B `RRC E` (R227) -/
  | rrcE
  /-- 0xCB 0x0C `RRC H` (R227) -/
  | rrcH
  /-- 0xCB 0x0D `RRC L` (R227) -/
  | rrcL
  /-- 0xCB 0x0E `RRC (HL)` (R228) -/
  | rrcAtHl
  /-- 0xCB 0x0F `RRC A` (R227) -/
  | rrcA
  /-- 0xCB 0x10 `RL B` (R229) -/
  | rlB
  /-- 0xCB 0x11 `RL C` (R229) -/
  | rlC
  /-- 0xCB 0x12 `RL D` (R229) -/
  | rlD
  /-- 0xCB 0x13 `RL E` (R229) -/
  | rlE
  /-- 0xCB 0x14 `RL H` (R229) -/
  | rlH
  /-- 0xCB 0x15 `RL L` (R229) -/
  | rlL
  /-- 0xCB 0x16 `RL (HL)` (R230) -/
  | rlAtHl
  /-- 0xCB 0x17 `RL A` (R229) -/
  | rlA
  /-- 0xCB 0x18 `RR B` (R231) -/
  | rrB
  /-- 0xCB 0x19 `RR C` (R231) -/
  | rrC
  /-- 0xCB 0x1A `RR D` (R231) -/
  | rrD
  /-- 0xCB 0x1B `RR E` (R231) -/
  | rrE
  /-- 0xCB 0x1C `RR H` (R231) -/
  | rrH
  /-- 0xCB 0x1D `RR L` (R231) -/
  | rrL
  /-- 0xCB 0x1E `RR (HL)` (R232) -/
  | rrAtHl
  /-- 0xCB 0x1F `RR A` (R231) -/
  | rrA
  /-- 0xCB 0x20 `SLA B` (R233) -/
  | slaB
  /-- 0xCB 0x21 `SLA C` (R233) -/
  | slaC
  /-- 0xCB 0x22 `SLA D` (R233) -/
  | slaD
  /-- 0xCB 0x23 `SLA E` (R233) -/
  | slaE
  /-- 0xCB 0x24 `SLA H` (R233) -/
  | slaH
  /-- 0xCB 0x25 `SLA L` (R233) -/
  | slaL
  /-- 0xCB 0x26 `SLA (HL)` (R234) -/
  | slaAtHl
  /-- 0xCB 0x27 `SLA A` (R233) -/
  | slaA
  /-- 0xCB 0x28 `SRA B` (R235) -/
  | sraB
  /-- 0xCB 0x29 `SRA C` (R235) -/
  | sraC
  /-- 0xCB 0x2A `SRA D` (R235) -/
  | sraD
  /-- 0xCB 0x2B `SRA E` (R235) -/
  | sraE
  /-- 0xCB 0x2C `SRA H` (R235) -/
  | sraH
  /-- 0xCB 0x2D `SRA L` (R235) -/
  | sraL
  /-- 0xCB 0x2E `SRA (HL)` (R236) -/
  | sraAtHl
  /-- 0xCB 0x2F `SRA A` (R235) -/
  | sraA
  /-- 0xCB 0x30 `SWAP B` (R237) -/
  | swapB
  /-- 0xCB 0x31 `SWAP C` (R237) -/
  | swapC
  /-- 0xCB 0x32 `SWAP D` (R237) -/
  | swapD
  /-- 0xCB 0x33 `SWAP E` (R237) -/
  | swapE
  /-- 0xCB 0x34 `SWAP H` (R237) -/
  | swapH
  /-- 0xCB 0x35 `SWAP L` (R237) -/
  | swapL
  /-- 0xCB 0x36 `SWAP (HL)` (R238) -/
  | swapAtHl
  /-- 0xCB 0x37 `SWAP A` (R237) -/
  | swapA
  /-- 0xCB 0x38 `SRL B` (R239) -/
  | srlB
  /-- 0xCB 0x39 `SRL C` (R239) -/
  | srlC
  /-- 0xCB 0x3A `SRL D` (R239) -/
  | srlD
  /-- 0xCB 0x3B `SRL E` (R239) -/
  | srlE
  /-- 0xCB 0x3C `SRL H` (R239) -/
  | srlH
  /-- 0xCB 0x3D `SRL L` (R239) -/
  | srlL
  /-- 0xCB 0x3E `SRL (HL)` (R240) -/
  | srlAtHl
  /-- 0xCB 0x3F `SRL A` (R239) -/
  | srlA
  /-- 0xCB 0x40 `BIT 0,B` (R250) -/
  | bit0B
  /-- 0xCB 0x41 `BIT 0,C` (R250) -/
  | bit0C
  /-- 0xCB 0x42 `BIT 0,D` (R250) -/
  | bit0D
  /-- 0xCB 0x43 `BIT 0,E` (R250) -/
  | bit0E
  /-- 0xCB 0x44 `BIT 0,H` (R250) -/
  | bit0H
  /-- 0xCB 0x45 `BIT 0,L` (R250) -/
  | bit0L
  /-- 0xCB 0x46 `BIT 0,(HL)` (R251) -/
  | bit0AtHl
  /-- 0xCB 0x47 `BIT 0,A` (R250) -/
  | bit0A
  /-- 0xCB 0x48 `BIT 1,B` (R250) -/
  | bit1B
  /-- 0xCB 0x49 `BIT 1,C` (R250) -/
  | bit1C
  /-- 0xCB 0x4A `BIT 1,D` (R250) -/
  | bit1D
  /-- 0xCB 0x4B `BIT 1,E` (R250) -/
  | bit1E
  /-- 0xCB 0x4C `BIT 1,H` (R250) -/
  | bit1H
  /-- 0xCB 0x4D `BIT 1,L` (R250) -/
  | bit1L
  /-- 0xCB 0x4E `BIT 1,(HL)` (R251) -/
  | bit1AtHl
  /-- 0xCB 0x4F `BIT 1,A` (R250) -/
  | bit1A
  /-- 0xCB 0x50 `BIT 2,B` (R250) -/
  | bit2B
  /-- 0xCB 0x51 `BIT 2,C` (R250) -/
  | bit2C
  /-- 0xCB 0x52 `BIT 2,D` (R250) -/
  | bit2D
  /-- 0xCB 0x53 `BIT 2,E` (R250) -/
  | bit2E
  /-- 0xCB 0x54 `BIT 2,H` (R250) -/
  | bit2H
  /-- 0xCB 0x55 `BIT 2,L` (R250) -/
  | bit2L
  /-- 0xCB 0x56 `BIT 2,(HL)` (R251) -/
  | bit2AtHl
  /-- 0xCB 0x57 `BIT 2,A` (R250) -/
  | bit2A
  /-- 0xCB 0x58 `BIT 3,B` (R250) -/
  | bit3B
  /-- 0xCB 0x59 `BIT 3,C` (R250) -/
  | bit3C
  /-- 0xCB 0x5A `BIT 3,D` (R250) -/
  | bit3D
  /-- 0xCB 0x5B `BIT 3,E` (R250) -/
  | bit3E
  /-- 0xCB 0x5C `BIT 3,H` (R250) -/
  | bit3H
  /-- 0xCB 0x5D `BIT 3,L` (R250) -/
  | bit3L
  /-- 0xCB 0x5E `BIT 3,(HL)` (R251) -/
  | bit3AtHl
  /-- 0xCB 0x5F `BIT 3,A` (R250) -/
  | bit3A
  /-- 0xCB 0x60 `BIT 4,B` (R250) -/
  | bit4B
  /-- 0xCB 0x61 `BIT 4,C` (R250) -/
  | bit4C
  /-- 0xCB 0x62 `BIT 4,D` (R250) -/
  | bit4D
  /-- 0xCB 0x63 `BIT 4,E` (R250) -/
  | bit4E
  /-- 0xCB 0x64 `BIT 4,H` (R250) -/
  | bit4H
  /-- 0xCB 0x65 `BIT 4,L` (R250) -/
  | bit4L
  /-- 0xCB 0x66 `BIT 4,(HL)` (R251) -/
  | bit4AtHl
  /-- 0xCB 0x67 `BIT 4,A` (R250) -/
  | bit4A
  /-- 0xCB 0x68 `BIT 5,B` (R250) -/
  | bit5B
  /-- 0xCB 0x69 `BIT 5,C` (R250) -/
  | bit5C
  /-- 0xCB 0x6A `BIT 5,D` (R250) -/
  | bit5D
  /-- 0xCB 0x6B `BIT 5,E` (R250) -/
  | bit5E
  /-- 0xCB 0x6C `BIT 5,H` (R250) -/
  | bit5H
  /-- 0xCB 0x6D `BIT 5,L` (R250) -/
  | bit5L
  /-- 0xCB 0x6E `BIT 5,(HL)` (R251) -/
  | bit5AtHl
  /-- 0xCB 0x6F `BIT 5,A` (R250) -/
  | bit5A
  /-- 0xCB 0x70 `BIT 6,B` (R250) -/
  | bit6B
  /-- 0xCB 0x71 `BIT 6,C` (R250) -/
  | bit6C
  /-- 0xCB 0x72 `BIT 6,D` (R250) -/
  | bit6D
  /-- 0xCB 0x73 `BIT 6,E` (R250) -/
  | bit6E
  /-- 0xCB 0x74 `BIT 6,H` (R250) -/
  | bit6H
  /-- 0xCB 0x75 `BIT 6,L` (R250) -/
  | bit6L
  /-- 0xCB 0x76 `BIT 6,(HL)` (R251) -/
  | bit6AtHl
  /-- 0xCB 0x77 `BIT 6,A` (R250) -/
  | bit6A
  /-- 0xCB 0x78 `BIT 7,B` (R250) -/
  | bit7B
  /-- 0xCB 0x79 `BIT 7,C` (R250) -/
  | bit7C
  /-- 0xCB 0x7A `BIT 7,D` (R250) -/
  | bit7D
  /-- 0xCB 0x7B `BIT 7,E` (R250) -/
  | bit7E
  /-- 0xCB 0x7C `BIT 7,H` (R250) -/
  | bit7H
  /-- 0xCB 0x7D `BIT 7,L` (R250) -/
  | bit7L
  /-- 0xCB 0x7E `BIT 7,(HL)` (R251) -/
  | bit7AtHl
  /-- 0xCB 0x7F `BIT 7,A` (R250) -/
  | bit7A
  /-- 0xCB 0x80 `RES 0,B` (R252) -/
  | res0B
  /-- 0xCB 0x81 `RES 0,C` (R252) -/
  | res0C
  /-- 0xCB 0x82 `RES 0,D` (R252) -/
  | res0D
  /-- 0xCB 0x83 `RES 0,E` (R252) -/
  | res0E
  /-- 0xCB 0x84 `RES 0,H` (R252) -/
  | res0H
  /-- 0xCB 0x85 `RES 0,L` (R252) -/
  | res0L
  /-- 0xCB 0x86 `RES 0,(HL)` (R253) -/
  | res0AtHl
  /-- 0xCB 0x87 `RES 0,A` (R252) -/
  | res0A
  /-- 0xCB 0x88 `RES 1,B` (R252) -/
  | res1B
  /-- 0xCB 0x89 `RES 1,C` (R252) -/
  | res1C
  /-- 0xCB 0x8A `RES 1,D` (R252) -/
  | res1D
  /-- 0xCB 0x8B `RES 1,E` (R252) -/
  | res1E
  /-- 0xCB 0x8C `RES 1,H` (R252) -/
  | res1H
  /-- 0xCB 0x8D `RES 1,L` (R252) -/
  | res1L
  /-- 0xCB 0x8E `RES 1,(HL)` (R253) -/
  | res1AtHl
  /-- 0xCB 0x8F `RES 1,A` (R252) -/
  | res1A
  /-- 0xCB 0x90 `RES 2,B` (R252) -/
  | res2B
  /-- 0xCB 0x91 `RES 2,C` (R252) -/
  | res2C
  /-- 0xCB 0x92 `RES 2,D` (R252) -/
  | res2D
  /-- 0xCB 0x93 `RES 2,E` (R252) -/
  | res2E
  /-- 0xCB 0x94 `RES 2,H` (R252) -/
  | res2H
  /-- 0xCB 0x95 `RES 2,L` (R252) -/
  | res2L
  /-- 0xCB 0x96 `RES 2,(HL)` (R253) -/
  | res2AtHl
  /-- 0xCB 0x97 `RES 2,A` (R252) -/
  | res2A
  /-- 0xCB 0x98 `RES 3,B` (R252) -/
  | res3B
  /-- 0xCB 0x99 `RES 3,C` (R252) -/
  | res3C
  /-- 0xCB 0x9A `RES 3,D` (R252) -/
  | res3D
  /-- 0xCB 0x9B `RES 3,E` (R252) -/
  | res3E
  /-- 0xCB 0x9C `RES 3,H` (R252) -/
  | res3H
  /-- 0xCB 0x9D `RES 3,L` (R252) -/
  | res3L
  /-- 0xCB 0x9E `RES 3,(HL)` (R253) -/
  | res3AtHl
  /-- 0xCB 0x9F `RES 3,A` (R252) -/
  | res3A
  /-- 0xCB 0xA0 `RES 4,B` (R252) -/
  | res4B
  /-- 0xCB 0xA1 `RES 4,C` (R252) -/
  | res4C
  /-- 0xCB 0xA2 `RES 4,D` (R252) -/
  | res4D
  /-- 0xCB 0xA3 `RES 4,E` (R252) -/
  | res4E
  /-- 0xCB 0xA4 `RES 4,H` (R252) -/
  | res4H
  /-- 0xCB 0xA5 `RES 4,L` (R252) -/
  | res4L
  /-- 0xCB 0xA6 `RES 4,(HL)` (R253) -/
  | res4AtHl
  /-- 0xCB 0xA7 `RES 4,A` (R252) -/
  | res4A
  /-- 0xCB 0xA8 `RES 5,B` (R252) -/
  | res5B
  /-- 0xCB 0xA9 `RES 5,C` (R252) -/
  | res5C
  /-- 0xCB 0xAA `RES 5,D` (R252) -/
  | res5D
  /-- 0xCB 0xAB `RES 5,E` (R252) -/
  | res5E
  /-- 0xCB 0xAC `RES 5,H` (R252) -/
  | res5H
  /-- 0xCB 0xAD `RES 5,L` (R252) -/
  | res5L
  /-- 0xCB 0xAE `RES 5,(HL)` (R253) -/
  | res5AtHl
  /-- 0xCB 0xAF `RES 5,A` (R252) -/
  | res5A
  /-- 0xCB 0xB0 `RES 6,B` (R252) -/
  | res6B
  /-- 0xCB 0xB1 `RES 6,C` (R252) -/
  | res6C
  /-- 0xCB 0xB2 `RES 6,D` (R252) -/
  | res6D
  /-- 0xCB 0xB3 `RES 6,E` (R252) -/
  | res6E
  /-- 0xCB 0xB4 `RES 6,H` (R252) -/
  | res6H
  /-- 0xCB 0xB5 `RES 6,L` (R252) -/
  | res6L
  /-- 0xCB 0xB6 `RES 6,(HL)` (R253) -/
  | res6AtHl
  /-- 0xCB 0xB7 `RES 6,A` (R252) -/
  | res6A
  /-- 0xCB 0xB8 `RES 7,B` (R252) -/
  | res7B
  /-- 0xCB 0xB9 `RES 7,C` (R252) -/
  | res7C
  /-- 0xCB 0xBA `RES 7,D` (R252) -/
  | res7D
  /-- 0xCB 0xBB `RES 7,E` (R252) -/
  | res7E
  /-- 0xCB 0xBC `RES 7,H` (R252) -/
  | res7H
  /-- 0xCB 0xBD `RES 7,L` (R252) -/
  | res7L
  /-- 0xCB 0xBE `RES 7,(HL)` (R253) -/
  | res7AtHl
  /-- 0xCB 0xBF `RES 7,A` (R252) -/
  | res7A
  /-- 0xCB 0xC0 `SET 0,B` (R254) -/
  | set0B
  /-- 0xCB 0xC1 `SET 0,C` (R254) -/
  | set0C
  /-- 0xCB 0xC2 `SET 0,D` (R254) -/
  | set0D
  /-- 0xCB 0xC3 `SET 0,E` (R254) -/
  | set0E
  /-- 0xCB 0xC4 `SET 0,H` (R254) -/
  | set0H
  /-- 0xCB 0xC5 `SET 0,L` (R254) -/
  | set0L
  /-- 0xCB 0xC6 `SET 0,(HL)` (R255) -/
  | set0AtHl
  /-- 0xCB 0xC7 `SET 0,A` (R254) -/
  | set0A
  /-- 0xCB 0xC8 `SET 1,B` (R254) -/
  | set1B
  /-- 0xCB 0xC9 `SET 1,C` (R254) -/
  | set1C
  /-- 0xCB 0xCA `SET 1,D` (R254) -/
  | set1D
  /-- 0xCB 0xCB `SET 1,E` (R254) -/
  | set1E
  /-- 0xCB 0xCC `SET 1,H` (R254) -/
  | set1H
  /-- 0xCB 0xCD `SET 1,L` (R254) -/
  | set1L
  /-- 0xCB 0xCE `SET 1,(HL)` (R255) -/
  | set1AtHl
  /-- 0xCB 0xCF `SET 1,A` (R254) -/
  | set1A
  /-- 0xCB 0xD0 `SET 2,B` (R254) -/
  | set2B
  /-- 0xCB 0xD1 `SET 2,C` (R254) -/
  | set2C
  /-- 0xCB 0xD2 `SET 2,D` (R254) -/
  | set2D
  /-- 0xCB 0xD3 `SET 2,E` (R254) -/
  | set2E
  /-- 0xCB 0xD4 `SET 2,H` (R254) -/
  | set2H
  /-- 0xCB 0xD5 `SET 2,L` (R254) -/
  | set2L
  /-- 0xCB 0xD6 `SET 2,(HL)` (R255) -/
  | set2AtHl
  /-- 0xCB 0xD7 `SET 2,A` (R254) -/
  | set2A
  /-- 0xCB 0xD8 `SET 3,B` (R254) -/
  | set3B
  /-- 0xCB 0xD9 `SET 3,C` (R254) -/
  | set3C
  /-- 0xCB 0xDA `SET 3,D` (R254) -/
  | set3D
  /-- 0xCB 0xDB `SET 3,E` (R254) -/
  | set3E
  /-- 0xCB 0xDC `SET 3,H` (R254) -/
  | set3H
  /-- 0xCB 0xDD `SET 3,L` (R254) -/
  | set3L
  /-- 0xCB 0xDE `SET 3,(HL)` (R255) -/
  | set3AtHl
  /-- 0xCB 0xDF `SET 3,A` (R254) -/
  | set3A
  /-- 0xCB 0xE0 `SET 4,B` (R254) -/
  | set4B
  /-- 0xCB 0xE1 `SET 4,C` (R254) -/
  | set4C
  /-- 0xCB 0xE2 `SET 4,D` (R254) -/
  | set4D
  /-- 0xCB 0xE3 `SET 4,E` (R254) -/
  | set4E
  /-- 0xCB 0xE4 `SET 4,H` (R254) -/
  | set4H
  /-- 0xCB 0xE5 `SET 4,L` (R254) -/
  | set4L
  /-- 0xCB 0xE6 `SET 4,(HL)` (R255) -/
  | set4AtHl
  /-- 0xCB 0xE7 `SET 4,A` (R254) -/
  | set4A
  /-- 0xCB 0xE8 `SET 5,B` (R254) -/
  | set5B
  /-- 0xCB 0xE9 `SET 5,C` (R254) -/
  | set5C
  /-- 0xCB 0xEA `SET 5,D` (R254) -/
  | set5D
  /-- 0xCB 0xEB `SET 5,E` (R254) -/
  | set5E
  /-- 0xCB 0xEC `SET 5,H` (R254) -/
  | set5H
  /-- 0xCB 0xED `SET 5,L` (R254) -/
  | set5L
  /-- 0xCB 0xEE `SET 5,(HL)` (R255) -/
  | set5AtHl
  /-- 0xCB 0xEF `SET 5,A` (R254) -/
  | set5A
  /-- 0xCB 0xF0 `SET 6,B` (R254) -/
  | set6B
  /-- 0xCB 0xF1 `SET 6,C` (R254) -/
  | set6C
  /-- 0xCB 0xF2 `SET 6,D` (R254) -/
  | set6D
  /-- 0xCB 0xF3 `SET 6,E` (R254) -/
  | set6E
  /-- 0xCB 0xF4 `SET 6,H` (R254) -/
  | set6H
  /-- 0xCB 0xF5 `SET 6,L` (R254) -/
  | set6L
  /-- 0xCB 0xF6 `SET 6,(HL)` (R255) -/
  | set6AtHl
  /-- 0xCB 0xF7 `SET 6,A` (R254) -/
  | set6A
  /-- 0xCB 0xF8 `SET 7,B` (R254) -/
  | set7B
  /-- 0xCB 0xF9 `SET 7,C` (R254) -/
  | set7C
  /-- 0xCB 0xFA `SET 7,D` (R254) -/
  | set7D
  /-- 0xCB 0xFB `SET 7,E` (R254) -/
  | set7E
  /-- 0xCB 0xFC `SET 7,H` (R254) -/
  | set7H
  /-- 0xCB 0xFD `SET 7,L` (R254) -/
  | set7L
  /-- 0xCB 0xFE `SET 7,(HL)` (R255) -/
  | set7AtHl
  /-- 0xCB 0xFF `SET 7,A` (R254) -/
  | set7A
  deriving DecidableEq, Repr

end Sys2Proof
end

