-- ==== Sys2Proof/WellFormed.lean ====
section
/-! DEFINITION. Which instructions are well formed. Every operand is a byte or a word of its full range, so one check
is left: the prefix row is never executed alone, a step always takes the prefix and the extended opcode as ONE
instruction of the extended table (spec 47_misc.md R285, 30_encoding.md R106). -/

namespace Sys2Proof

/-- Well formed: an instruction that decoding can give. `prefixCb` is a row of the table and no decoded instruction. -/
def Instr.wf : Instr → Bool
  | .prefixCb _ => false
  | _ => true

end Sys2Proof
end

