-- ==== Sys2Proof/Decode.lean ====
section
/-! DEFINITION. Decoding, total on any bytes, and the encoder (spec 30_encoding.md R90 to R106, R109). The two
tables are the grids of R103 and R104, row by row. -/

namespace Sys2Proof

/-- A descriptor of the primary table: the format of R91 with the instruction it makes of its operand. `cb` is the
prefix row (R106): the next byte selects the extended table. -/
inductive Entry where
  | op (i : Instr)
  | n8 (make : Byte → Instr)
  | e8 (make : Byte → Instr)
  | n16 (make : Word → Instr)
  | cb

/-- Opcodes 0x00 to 0x0F (R103). -/
def primaryRow0 : List Entry :=
  [.op .nop, .n16 .ldBcN16, .op .ldAtBcA, .op .incBc,
   .op .incB, .op .decB, .n8 .ldBN8, .op .rlca,
   .n16 .ldAtN16Sp, .op .addHlBc, .op .ldAAtBc, .op .decBc,
   .op .incC, .op .decC, .n8 .ldCN8, .op .rrca]

/-- Opcodes 0x10 to 0x1F (R103). -/
def primaryRow1 : List Entry :=
  [.n8 .stop, .n16 .ldDeN16, .op .ldAtDeA, .op .incDe,
   .op .incD, .op .decD, .n8 .ldDN8, .op .rla,
   .e8 .jrE8, .op .addHlDe, .op .ldAAtDe, .op .decDe,
   .op .incE, .op .decE, .n8 .ldEN8, .op .rra]

/-- Opcodes 0x20 to 0x2F (R103). -/
def primaryRow2 : List Entry :=
  [.e8 .jrNzE8, .n16 .ldHlN16, .op .ldAtHliA, .op .incHl,
   .op .incH, .op .decH, .n8 .ldHN8, .op .daa,
   .e8 .jrZE8, .op .addHlHl, .op .ldAAtHli, .op .decHl,
   .op .incL, .op .decL, .n8 .ldLN8, .op .cpl]

/-- Opcodes 0x30 to 0x3F (R103). -/
def primaryRow3 : List Entry :=
  [.e8 .jrNcE8, .n16 .ldSpN16, .op .ldAtHldA, .op .incSp,
   .op .incAtHl, .op .decAtHl, .n8 .ldAtHlN8, .op .scf,
   .e8 .jrCE8, .op .addHlSp, .op .ldAAtHld, .op .decSp,
   .op .incA, .op .decA, .n8 .ldAN8, .op .ccf]

/-- Opcodes 0x40 to 0x4F (R103). -/
def primaryRow4 : List Entry :=
  [.op .ldBB, .op .ldBC, .op .ldBD, .op .ldBE,
   .op .ldBH, .op .ldBL, .op .ldBAtHl, .op .ldBA,
   .op .ldCB, .op .ldCC, .op .ldCD, .op .ldCE,
   .op .ldCH, .op .ldCL, .op .ldCAtHl, .op .ldCA]

/-- Opcodes 0x50 to 0x5F (R103). -/
def primaryRow5 : List Entry :=
  [.op .ldDB, .op .ldDC, .op .ldDD, .op .ldDE,
   .op .ldDH, .op .ldDL, .op .ldDAtHl, .op .ldDA,
   .op .ldEB, .op .ldEC, .op .ldED, .op .ldEE,
   .op .ldEH, .op .ldEL, .op .ldEAtHl, .op .ldEA]

/-- Opcodes 0x60 to 0x6F (R103). -/
def primaryRow6 : List Entry :=
  [.op .ldHB, .op .ldHC, .op .ldHD, .op .ldHE,
   .op .ldHH, .op .ldHL, .op .ldHAtHl, .op .ldHA,
   .op .ldLB, .op .ldLC, .op .ldLD, .op .ldLE,
   .op .ldLH, .op .ldLL, .op .ldLAtHl, .op .ldLA]

/-- Opcodes 0x70 to 0x7F (R103). -/
def primaryRow7 : List Entry :=
  [.op .ldAtHlB, .op .ldAtHlC, .op .ldAtHlD, .op .ldAtHlE,
   .op .ldAtHlH, .op .ldAtHlL, .op .halt, .op .ldAtHlA,
   .op .ldAB, .op .ldAC, .op .ldAD, .op .ldAE,
   .op .ldAH, .op .ldAL, .op .ldAAtHl, .op .ldAA]

/-- Opcodes 0x80 to 0x8F (R103). -/
def primaryRow8 : List Entry :=
  [.op .addB, .op .addC, .op .addD, .op .addE,
   .op .addH, .op .addL, .op .addAtHl, .op .addA,
   .op .adcB, .op .adcC, .op .adcD, .op .adcE,
   .op .adcH, .op .adcL, .op .adcAtHl, .op .adcA]

/-- Opcodes 0x90 to 0x9F (R103). -/
def primaryRow9 : List Entry :=
  [.op .subB, .op .subC, .op .subD, .op .subE,
   .op .subH, .op .subL, .op .subAtHl, .op .subA,
   .op .sbcB, .op .sbcC, .op .sbcD, .op .sbcE,
   .op .sbcH, .op .sbcL, .op .sbcAtHl, .op .sbcA]

/-- Opcodes 0xA0 to 0xAF (R103). -/
def primaryRowA : List Entry :=
  [.op .andB, .op .andC, .op .andD, .op .andE,
   .op .andH, .op .andL, .op .andAtHl, .op .andA,
   .op .xorB, .op .xorC, .op .xorD, .op .xorE,
   .op .xorH, .op .xorL, .op .xorAtHl, .op .xorA]

/-- Opcodes 0xB0 to 0xBF (R103). -/
def primaryRowB : List Entry :=
  [.op .orB, .op .orC, .op .orD, .op .orE,
   .op .orH, .op .orL, .op .orAtHl, .op .orA,
   .op .cpB, .op .cpC, .op .cpD, .op .cpE,
   .op .cpH, .op .cpL, .op .cpAtHl, .op .cpA]

/-- Opcodes 0xC0 to 0xCF (R103). -/
def primaryRowC : List Entry :=
  [.op .retNz, .op .popBc, .n16 .jpNzN16, .n16 .jpN16,
   .n16 .callNzN16, .op .pushBc, .n8 .addN8, .op .rst00,
   .op .retZ, .op .ret, .n16 .jpZN16, .cb,
   .n16 .callZN16, .n16 .callN16, .n8 .adcN8, .op .rst08]

/-- Opcodes 0xD0 to 0xDF (R103). -/
def primaryRowD : List Entry :=
  [.op .retNc, .op .popDe, .n16 .jpNcN16, .op .illegalD3,
   .n16 .callNcN16, .op .pushDe, .n8 .subN8, .op .rst10,
   .op .retC, .op .reti, .n16 .jpCN16, .op .illegalDB,
   .n16 .callCN16, .op .illegalDD, .n8 .sbcN8, .op .rst18]

/-- Opcodes 0xE0 to 0xEF (R103). -/
def primaryRowE : List Entry :=
  [.n8 .ldhAtN8A, .op .popHl, .op .ldhAtCA, .op .illegalE3,
   .op .illegalE4, .op .pushHl, .n8 .andN8, .op .rst20,
   .e8 .addSpE8, .op .jpHl, .n16 .ldAtN16A, .op .illegalEB,
   .op .illegalEC, .op .illegalED, .n8 .xorN8, .op .rst28]

/-- Opcodes 0xF0 to 0xFF (R103). -/
def primaryRowF : List Entry :=
  [.n8 .ldhAAtN8, .op .popAf, .op .ldhAAtC, .op .di,
   .op .illegalF4, .op .pushAf, .n8 .orN8, .op .rst30,
   .e8 .ldHlSpE8, .op .ldSpHl, .n16 .ldAAtN16, .op .ei,
   .op .illegalFC, .op .illegalFD, .n8 .cpN8, .op .rst38]

/-- The rows of the primary table by the high hexadecimal digit (R103). -/
def primaryRow : Nat → List Entry
  | 0 => primaryRow0
  | 1 => primaryRow1
  | 2 => primaryRow2
  | 3 => primaryRow3
  | 4 => primaryRow4
  | 5 => primaryRow5
  | 6 => primaryRow6
  | 7 => primaryRow7
  | 8 => primaryRow8
  | 9 => primaryRow9
  | 10 => primaryRowA
  | 11 => primaryRowB
  | 12 => primaryRowC
  | 13 => primaryRowD
  | 14 => primaryRowE
  | _ => primaryRowF

/-- Extended opcodes 0x00 to 0x0F (R104). -/
def extendedRow0 : List Instr :=
  [.rlcB, .rlcC, .rlcD, .rlcE, .rlcH, .rlcL, .rlcAtHl, .rlcA,
   .rrcB, .rrcC, .rrcD, .rrcE, .rrcH, .rrcL, .rrcAtHl, .rrcA]

/-- Extended opcodes 0x10 to 0x1F (R104). -/
def extendedRow1 : List Instr :=
  [.rlB, .rlC, .rlD, .rlE, .rlH, .rlL, .rlAtHl, .rlA,
   .rrB, .rrC, .rrD, .rrE, .rrH, .rrL, .rrAtHl, .rrA]

/-- Extended opcodes 0x20 to 0x2F (R104). -/
def extendedRow2 : List Instr :=
  [.slaB, .slaC, .slaD, .slaE, .slaH, .slaL, .slaAtHl, .slaA,
   .sraB, .sraC, .sraD, .sraE, .sraH, .sraL, .sraAtHl, .sraA]

/-- Extended opcodes 0x30 to 0x3F (R104). -/
def extendedRow3 : List Instr :=
  [.swapB, .swapC, .swapD, .swapE, .swapH, .swapL, .swapAtHl, .swapA,
   .srlB, .srlC, .srlD, .srlE, .srlH, .srlL, .srlAtHl, .srlA]

/-- Extended opcodes 0x40 to 0x4F (R104). -/
def extendedRow4 : List Instr :=
  [.bit0B, .bit0C, .bit0D, .bit0E, .bit0H, .bit0L, .bit0AtHl, .bit0A,
   .bit1B, .bit1C, .bit1D, .bit1E, .bit1H, .bit1L, .bit1AtHl, .bit1A]

/-- Extended opcodes 0x50 to 0x5F (R104). -/
def extendedRow5 : List Instr :=
  [.bit2B, .bit2C, .bit2D, .bit2E, .bit2H, .bit2L, .bit2AtHl, .bit2A,
   .bit3B, .bit3C, .bit3D, .bit3E, .bit3H, .bit3L, .bit3AtHl, .bit3A]

/-- Extended opcodes 0x60 to 0x6F (R104). -/
def extendedRow6 : List Instr :=
  [.bit4B, .bit4C, .bit4D, .bit4E, .bit4H, .bit4L, .bit4AtHl, .bit4A,
   .bit5B, .bit5C, .bit5D, .bit5E, .bit5H, .bit5L, .bit5AtHl, .bit5A]

/-- Extended opcodes 0x70 to 0x7F (R104). -/
def extendedRow7 : List Instr :=
  [.bit6B, .bit6C, .bit6D, .bit6E, .bit6H, .bit6L, .bit6AtHl, .bit6A,
   .bit7B, .bit7C, .bit7D, .bit7E, .bit7H, .bit7L, .bit7AtHl, .bit7A]

/-- Extended opcodes 0x80 to 0x8F (R104). -/
def extendedRow8 : List Instr :=
  [.res0B, .res0C, .res0D, .res0E, .res0H, .res0L, .res0AtHl, .res0A,
   .res1B, .res1C, .res1D, .res1E, .res1H, .res1L, .res1AtHl, .res1A]

/-- Extended opcodes 0x90 to 0x9F (R104). -/
def extendedRow9 : List Instr :=
  [.res2B, .res2C, .res2D, .res2E, .res2H, .res2L, .res2AtHl, .res2A,
   .res3B, .res3C, .res3D, .res3E, .res3H, .res3L, .res3AtHl, .res3A]

/-- Extended opcodes 0xA0 to 0xAF (R104). -/
def extendedRowA : List Instr :=
  [.res4B, .res4C, .res4D, .res4E, .res4H, .res4L, .res4AtHl, .res4A,
   .res5B, .res5C, .res5D, .res5E, .res5H, .res5L, .res5AtHl, .res5A]

/-- Extended opcodes 0xB0 to 0xBF (R104). -/
def extendedRowB : List Instr :=
  [.res6B, .res6C, .res6D, .res6E, .res6H, .res6L, .res6AtHl, .res6A,
   .res7B, .res7C, .res7D, .res7E, .res7H, .res7L, .res7AtHl, .res7A]

/-- Extended opcodes 0xC0 to 0xCF (R104). -/
def extendedRowC : List Instr :=
  [.set0B, .set0C, .set0D, .set0E, .set0H, .set0L, .set0AtHl, .set0A,
   .set1B, .set1C, .set1D, .set1E, .set1H, .set1L, .set1AtHl, .set1A]

/-- Extended opcodes 0xD0 to 0xDF (R104). -/
def extendedRowD : List Instr :=
  [.set2B, .set2C, .set2D, .set2E, .set2H, .set2L, .set2AtHl, .set2A,
   .set3B, .set3C, .set3D, .set3E, .set3H, .set3L, .set3AtHl, .set3A]

/-- Extended opcodes 0xE0 to 0xEF (R104). -/
def extendedRowE : List Instr :=
  [.set4B, .set4C, .set4D, .set4E, .set4H, .set4L, .set4AtHl, .set4A,
   .set5B, .set5C, .set5D, .set5E, .set5H, .set5L, .set5AtHl, .set5A]

/-- Extended opcodes 0xF0 to 0xFF (R104). -/
def extendedRowF : List Instr :=
  [.set6B, .set6C, .set6D, .set6E, .set6H, .set6L, .set6AtHl, .set6A,
   .set7B, .set7C, .set7D, .set7E, .set7H, .set7L, .set7AtHl, .set7A]

/-- The rows of the extended table by the high hexadecimal digit (R104). -/
def extendedRow : Nat → List Instr
  | 0 => extendedRow0
  | 1 => extendedRow1
  | 2 => extendedRow2
  | 3 => extendedRow3
  | 4 => extendedRow4
  | 5 => extendedRow5
  | 6 => extendedRow6
  | 7 => extendedRow7
  | 8 => extendedRow8
  | 9 => extendedRow9
  | 10 => extendedRowA
  | 11 => extendedRowB
  | 12 => extendedRowC
  | 13 => extendedRowD
  | 14 => extendedRowE
  | _ => extendedRowF

theorem primaryRow_length (h : Nat) : (primaryRow h).length = 16 := by unfold primaryRow; split <;> rfl

theorem extendedRow_length (h : Nat) : (extendedRow h).length = 16 := by unfold extendedRow; split <;> rfl

/-- `primary_table[op]`: a total mapping from the primary opcode byte (R90, R94, R103). -/
def primaryEntry (op : Byte) : Entry :=
  (primaryRow (op.toNat / 16)).get
    (Fin.mk (op.toNat % 16) (by rw [primaryRow_length]; exact Nat.mod_lt _ (by decide)))

/-- `extended_table[ext]`: total over the extended opcode byte (R94, R104). -/
def extendedInstr (ext : Byte) : Instr :=
  (extendedRow (ext.toNat / 16)).get
    (Fin.mk (ext.toNat % 16) (by rw [extendedRow_length]; exact Nat.mod_lt _ (by decide)))

/-- Why a list of bytes holds no instruction: there is no undefined opcode (R90, R105), only a list that ends
before the instruction does. -/
inductive DecodeError where
  | truncated
  deriving DecidableEq, Repr

/-- The instruction at the head of a list of bytes and the bytes after it. -/
def decode : List Byte → Except DecodeError (Instr × List Byte)
  | [] => .error .truncated
  | op :: rest =>
    match primaryEntry op, rest with
    | .op i, rest => .ok (i, rest)
    | .n8 make, v :: rest => .ok (make v, rest)
    | .e8 make, v :: rest => .ok (make v, rest)
    | .n16 make, lo :: hi :: rest => .ok (make (joinBytes hi lo), rest)
    | .cb, ext :: rest => .ok (extendedInstr ext, rest)
    | _, _ => .error .truncated

/-- The bytes of an instruction in memory order (R91; the `bytes` column of the table, R109). -/
def encode : Instr → List Byte
  | .nop => [0x00#8]
  | .ldBcN16 n16 => [0x01#8, loByte n16, hiByte n16]
  | .ldAtBcA => [0x02#8]
  | .incBc => [0x03#8]
  | .incB => [0x04#8]
  | .decB => [0x05#8]
  | .ldBN8 n8 => [0x06#8, n8]
  | .rlca => [0x07#8]
  | .ldAtN16Sp n16 => [0x08#8, loByte n16, hiByte n16]
  | .addHlBc => [0x09#8]
  | .ldAAtBc => [0x0A#8]
  | .decBc => [0x0B#8]
  | .incC => [0x0C#8]
  | .decC => [0x0D#8]
  | .ldCN8 n8 => [0x0E#8, n8]
  | .rrca => [0x0F#8]
  | .stop n8 => [0x10#8, n8]
  | .ldDeN16 n16 => [0x11#8, loByte n16, hiByte n16]
  | .ldAtDeA => [0x12#8]
  | .incDe => [0x13#8]
  | .incD => [0x14#8]
  | .decD => [0x15#8]
  | .ldDN8 n8 => [0x16#8, n8]
  | .rla => [0x17#8]
  | .jrE8 e8 => [0x18#8, e8]
  | .addHlDe => [0x19#8]
  | .ldAAtDe => [0x1A#8]
  | .decDe => [0x1B#8]
  | .incE => [0x1C#8]
  | .decE => [0x1D#8]
  | .ldEN8 n8 => [0x1E#8, n8]
  | .rra => [0x1F#8]
  | .jrNzE8 e8 => [0x20#8, e8]
  | .ldHlN16 n16 => [0x21#8, loByte n16, hiByte n16]
  | .ldAtHliA => [0x22#8]
  | .incHl => [0x23#8]
  | .incH => [0x24#8]
  | .decH => [0x25#8]
  | .ldHN8 n8 => [0x26#8, n8]
  | .daa => [0x27#8]
  | .jrZE8 e8 => [0x28#8, e8]
  | .addHlHl => [0x29#8]
  | .ldAAtHli => [0x2A#8]
  | .decHl => [0x2B#8]
  | .incL => [0x2C#8]
  | .decL => [0x2D#8]
  | .ldLN8 n8 => [0x2E#8, n8]
  | .cpl => [0x2F#8]
  | .jrNcE8 e8 => [0x30#8, e8]
  | .ldSpN16 n16 => [0x31#8, loByte n16, hiByte n16]
  | .ldAtHldA => [0x32#8]
  | .incSp => [0x33#8]
  | .incAtHl => [0x34#8]
  | .decAtHl => [0x35#8]
  | .ldAtHlN8 n8 => [0x36#8, n8]
  | .scf => [0x37#8]
  | .jrCE8 e8 => [0x38#8, e8]
  | .addHlSp => [0x39#8]
  | .ldAAtHld => [0x3A#8]
  | .decSp => [0x3B#8]
  | .incA => [0x3C#8]
  | .decA => [0x3D#8]
  | .ldAN8 n8 => [0x3E#8, n8]
  | .ccf => [0x3F#8]
  | .ldBB => [0x40#8]
  | .ldBC => [0x41#8]
  | .ldBD => [0x42#8]
  | .ldBE => [0x43#8]
  | .ldBH => [0x44#8]
  | .ldBL => [0x45#8]
  | .ldBAtHl => [0x46#8]
  | .ldBA => [0x47#8]
  | .ldCB => [0x48#8]
  | .ldCC => [0x49#8]
  | .ldCD => [0x4A#8]
  | .ldCE => [0x4B#8]
  | .ldCH => [0x4C#8]
  | .ldCL => [0x4D#8]
  | .ldCAtHl => [0x4E#8]
  | .ldCA => [0x4F#8]
  | .ldDB => [0x50#8]
  | .ldDC => [0x51#8]
  | .ldDD => [0x52#8]
  | .ldDE => [0x53#8]
  | .ldDH => [0x54#8]
  | .ldDL => [0x55#8]
  | .ldDAtHl => [0x56#8]
  | .ldDA => [0x57#8]
  | .ldEB => [0x58#8]
  | .ldEC => [0x59#8]
  | .ldED => [0x5A#8]
  | .ldEE => [0x5B#8]
  | .ldEH => [0x5C#8]
  | .ldEL => [0x5D#8]
  | .ldEAtHl => [0x5E#8]
  | .ldEA => [0x5F#8]
  | .ldHB => [0x60#8]
  | .ldHC => [0x61#8]
  | .ldHD => [0x62#8]
  | .ldHE => [0x63#8]
  | .ldHH => [0x64#8]
  | .ldHL => [0x65#8]
  | .ldHAtHl => [0x66#8]
  | .ldHA => [0x67#8]
  | .ldLB => [0x68#8]
  | .ldLC => [0x69#8]
  | .ldLD => [0x6A#8]
  | .ldLE => [0x6B#8]
  | .ldLH => [0x6C#8]
  | .ldLL => [0x6D#8]
  | .ldLAtHl => [0x6E#8]
  | .ldLA => [0x6F#8]
  | .ldAtHlB => [0x70#8]
  | .ldAtHlC => [0x71#8]
  | .ldAtHlD => [0x72#8]
  | .ldAtHlE => [0x73#8]
  | .ldAtHlH => [0x74#8]
  | .ldAtHlL => [0x75#8]
  | .halt => [0x76#8]
  | .ldAtHlA => [0x77#8]
  | .ldAB => [0x78#8]
  | .ldAC => [0x79#8]
  | .ldAD => [0x7A#8]
  | .ldAE => [0x7B#8]
  | .ldAH => [0x7C#8]
  | .ldAL => [0x7D#8]
  | .ldAAtHl => [0x7E#8]
  | .ldAA => [0x7F#8]
  | .addB => [0x80#8]
  | .addC => [0x81#8]
  | .addD => [0x82#8]
  | .addE => [0x83#8]
  | .addH => [0x84#8]
  | .addL => [0x85#8]
  | .addAtHl => [0x86#8]
  | .addA => [0x87#8]
  | .adcB => [0x88#8]
  | .adcC => [0x89#8]
  | .adcD => [0x8A#8]
  | .adcE => [0x8B#8]
  | .adcH => [0x8C#8]
  | .adcL => [0x8D#8]
  | .adcAtHl => [0x8E#8]
  | .adcA => [0x8F#8]
  | .subB => [0x90#8]
  | .subC => [0x91#8]
  | .subD => [0x92#8]
  | .subE => [0x93#8]
  | .subH => [0x94#8]
  | .subL => [0x95#8]
  | .subAtHl => [0x96#8]
  | .subA => [0x97#8]
  | .sbcB => [0x98#8]
  | .sbcC => [0x99#8]
  | .sbcD => [0x9A#8]
  | .sbcE => [0x9B#8]
  | .sbcH => [0x9C#8]
  | .sbcL => [0x9D#8]
  | .sbcAtHl => [0x9E#8]
  | .sbcA => [0x9F#8]
  | .andB => [0xA0#8]
  | .andC => [0xA1#8]
  | .andD => [0xA2#8]
  | .andE => [0xA3#8]
  | .andH => [0xA4#8]
  | .andL => [0xA5#8]
  | .andAtHl => [0xA6#8]
  | .andA => [0xA7#8]
  | .xorB => [0xA8#8]
  | .xorC => [0xA9#8]
  | .xorD => [0xAA#8]
  | .xorE => [0xAB#8]
  | .xorH => [0xAC#8]
  | .xorL => [0xAD#8]
  | .xorAtHl => [0xAE#8]
  | .xorA => [0xAF#8]
  | .orB => [0xB0#8]
  | .orC => [0xB1#8]
  | .orD => [0xB2#8]
  | .orE => [0xB3#8]
  | .orH => [0xB4#8]
  | .orL => [0xB5#8]
  | .orAtHl => [0xB6#8]
  | .orA => [0xB7#8]
  | .cpB => [0xB8#8]
  | .cpC => [0xB9#8]
  | .cpD => [0xBA#8]
  | .cpE => [0xBB#8]
  | .cpH => [0xBC#8]
  | .cpL => [0xBD#8]
  | .cpAtHl => [0xBE#8]
  | .cpA => [0xBF#8]
  | .retNz => [0xC0#8]
  | .popBc => [0xC1#8]
  | .jpNzN16 n16 => [0xC2#8, loByte n16, hiByte n16]
  | .jpN16 n16 => [0xC3#8, loByte n16, hiByte n16]
  | .callNzN16 n16 => [0xC4#8, loByte n16, hiByte n16]
  | .pushBc => [0xC5#8]
  | .addN8 n8 => [0xC6#8, n8]
  | .rst00 => [0xC7#8]
  | .retZ => [0xC8#8]
  | .ret => [0xC9#8]
  | .jpZN16 n16 => [0xCA#8, loByte n16, hiByte n16]
  | .prefixCb ext => [0xCB#8, ext]
  | .callZN16 n16 => [0xCC#8, loByte n16, hiByte n16]
  | .callN16 n16 => [0xCD#8, loByte n16, hiByte n16]
  | .adcN8 n8 => [0xCE#8, n8]
  | .rst08 => [0xCF#8]
  | .retNc => [0xD0#8]
  | .popDe => [0xD1#8]
  | .jpNcN16 n16 => [0xD2#8, loByte n16, hiByte n16]
  | .illegalD3 => [0xD3#8]
  | .callNcN16 n16 => [0xD4#8, loByte n16, hiByte n16]
  | .pushDe => [0xD5#8]
  | .subN8 n8 => [0xD6#8, n8]
  | .rst10 => [0xD7#8]
  | .retC => [0xD8#8]
  | .reti => [0xD9#8]
  | .jpCN16 n16 => [0xDA#8, loByte n16, hiByte n16]
  | .illegalDB => [0xDB#8]
  | .callCN16 n16 => [0xDC#8, loByte n16, hiByte n16]
  | .illegalDD => [0xDD#8]
  | .sbcN8 n8 => [0xDE#8, n8]
  | .rst18 => [0xDF#8]
  | .ldhAtN8A n8 => [0xE0#8, n8]
  | .popHl => [0xE1#8]
  | .ldhAtCA => [0xE2#8]
  | .illegalE3 => [0xE3#8]
  | .illegalE4 => [0xE4#8]
  | .pushHl => [0xE5#8]
  | .andN8 n8 => [0xE6#8, n8]
  | .rst20 => [0xE7#8]
  | .addSpE8 e8 => [0xE8#8, e8]
  | .jpHl => [0xE9#8]
  | .ldAtN16A n16 => [0xEA#8, loByte n16, hiByte n16]
  | .illegalEB => [0xEB#8]
  | .illegalEC => [0xEC#8]
  | .illegalED => [0xED#8]
  | .xorN8 n8 => [0xEE#8, n8]
  | .rst28 => [0xEF#8]
  | .ldhAAtN8 n8 => [0xF0#8, n8]
  | .popAf => [0xF1#8]
  | .ldhAAtC => [0xF2#8]
  | .di => [0xF3#8]
  | .illegalF4 => [0xF4#8]
  | .pushAf => [0xF5#8]
  | .orN8 n8 => [0xF6#8, n8]
  | .rst30 => [0xF7#8]
  | .ldHlSpE8 e8 => [0xF8#8, e8]
  | .ldSpHl => [0xF9#8]
  | .ldAAtN16 n16 => [0xFA#8, loByte n16, hiByte n16]
  | .ei => [0xFB#8]
  | .illegalFC => [0xFC#8]
  | .illegalFD => [0xFD#8]
  | .cpN8 n8 => [0xFE#8, n8]
  | .rst38 => [0xFF#8]
  | .rlcB => [0xCB#8, 0x00#8]
  | .rlcC => [0xCB#8, 0x01#8]
  | .rlcD => [0xCB#8, 0x02#8]
  | .rlcE => [0xCB#8, 0x03#8]
  | .rlcH => [0xCB#8, 0x04#8]
  | .rlcL => [0xCB#8, 0x05#8]
  | .rlcAtHl => [0xCB#8, 0x06#8]
  | .rlcA => [0xCB#8, 0x07#8]
  | .rrcB => [0xCB#8, 0x08#8]
  | .rrcC => [0xCB#8, 0x09#8]
  | .rrcD => [0xCB#8, 0x0A#8]
  | .rrcE => [0xCB#8, 0x0B#8]
  | .rrcH => [0xCB#8, 0x0C#8]
  | .rrcL => [0xCB#8, 0x0D#8]
  | .rrcAtHl => [0xCB#8, 0x0E#8]
  | .rrcA => [0xCB#8, 0x0F#8]
  | .rlB => [0xCB#8, 0x10#8]
  | .rlC => [0xCB#8, 0x11#8]
  | .rlD => [0xCB#8, 0x12#8]
  | .rlE => [0xCB#8, 0x13#8]
  | .rlH => [0xCB#8, 0x14#8]
  | .rlL => [0xCB#8, 0x15#8]
  | .rlAtHl => [0xCB#8, 0x16#8]
  | .rlA => [0xCB#8, 0x17#8]
  | .rrB => [0xCB#8, 0x18#8]
  | .rrC => [0xCB#8, 0x19#8]
  | .rrD => [0xCB#8, 0x1A#8]
  | .rrE => [0xCB#8, 0x1B#8]
  | .rrH => [0xCB#8, 0x1C#8]
  | .rrL => [0xCB#8, 0x1D#8]
  | .rrAtHl => [0xCB#8, 0x1E#8]
  | .rrA => [0xCB#8, 0x1F#8]
  | .slaB => [0xCB#8, 0x20#8]
  | .slaC => [0xCB#8, 0x21#8]
  | .slaD => [0xCB#8, 0x22#8]
  | .slaE => [0xCB#8, 0x23#8]
  | .slaH => [0xCB#8, 0x24#8]
  | .slaL => [0xCB#8, 0x25#8]
  | .slaAtHl => [0xCB#8, 0x26#8]
  | .slaA => [0xCB#8, 0x27#8]
  | .sraB => [0xCB#8, 0x28#8]
  | .sraC => [0xCB#8, 0x29#8]
  | .sraD => [0xCB#8, 0x2A#8]
  | .sraE => [0xCB#8, 0x2B#8]
  | .sraH => [0xCB#8, 0x2C#8]
  | .sraL => [0xCB#8, 0x2D#8]
  | .sraAtHl => [0xCB#8, 0x2E#8]
  | .sraA => [0xCB#8, 0x2F#8]
  | .swapB => [0xCB#8, 0x30#8]
  | .swapC => [0xCB#8, 0x31#8]
  | .swapD => [0xCB#8, 0x32#8]
  | .swapE => [0xCB#8, 0x33#8]
  | .swapH => [0xCB#8, 0x34#8]
  | .swapL => [0xCB#8, 0x35#8]
  | .swapAtHl => [0xCB#8, 0x36#8]
  | .swapA => [0xCB#8, 0x37#8]
  | .srlB => [0xCB#8, 0x38#8]
  | .srlC => [0xCB#8, 0x39#8]
  | .srlD => [0xCB#8, 0x3A#8]
  | .srlE => [0xCB#8, 0x3B#8]
  | .srlH => [0xCB#8, 0x3C#8]
  | .srlL => [0xCB#8, 0x3D#8]
  | .srlAtHl => [0xCB#8, 0x3E#8]
  | .srlA => [0xCB#8, 0x3F#8]
  | .bit0B => [0xCB#8, 0x40#8]
  | .bit0C => [0xCB#8, 0x41#8]
  | .bit0D => [0xCB#8, 0x42#8]
  | .bit0E => [0xCB#8, 0x43#8]
  | .bit0H => [0xCB#8, 0x44#8]
  | .bit0L => [0xCB#8, 0x45#8]
  | .bit0AtHl => [0xCB#8, 0x46#8]
  | .bit0A => [0xCB#8, 0x47#8]
  | .bit1B => [0xCB#8, 0x48#8]
  | .bit1C => [0xCB#8, 0x49#8]
  | .bit1D => [0xCB#8, 0x4A#8]
  | .bit1E => [0xCB#8, 0x4B#8]
  | .bit1H => [0xCB#8, 0x4C#8]
  | .bit1L => [0xCB#8, 0x4D#8]
  | .bit1AtHl => [0xCB#8, 0x4E#8]
  | .bit1A => [0xCB#8, 0x4F#8]
  | .bit2B => [0xCB#8, 0x50#8]
  | .bit2C => [0xCB#8, 0x51#8]
  | .bit2D => [0xCB#8, 0x52#8]
  | .bit2E => [0xCB#8, 0x53#8]
  | .bit2H => [0xCB#8, 0x54#8]
  | .bit2L => [0xCB#8, 0x55#8]
  | .bit2AtHl => [0xCB#8, 0x56#8]
  | .bit2A => [0xCB#8, 0x57#8]
  | .bit3B => [0xCB#8, 0x58#8]
  | .bit3C => [0xCB#8, 0x59#8]
  | .bit3D => [0xCB#8, 0x5A#8]
  | .bit3E => [0xCB#8, 0x5B#8]
  | .bit3H => [0xCB#8, 0x5C#8]
  | .bit3L => [0xCB#8, 0x5D#8]
  | .bit3AtHl => [0xCB#8, 0x5E#8]
  | .bit3A => [0xCB#8, 0x5F#8]
  | .bit4B => [0xCB#8, 0x60#8]
  | .bit4C => [0xCB#8, 0x61#8]
  | .bit4D => [0xCB#8, 0x62#8]
  | .bit4E => [0xCB#8, 0x63#8]
  | .bit4H => [0xCB#8, 0x64#8]
  | .bit4L => [0xCB#8, 0x65#8]
  | .bit4AtHl => [0xCB#8, 0x66#8]
  | .bit4A => [0xCB#8, 0x67#8]
  | .bit5B => [0xCB#8, 0x68#8]
  | .bit5C => [0xCB#8, 0x69#8]
  | .bit5D => [0xCB#8, 0x6A#8]
  | .bit5E => [0xCB#8, 0x6B#8]
  | .bit5H => [0xCB#8, 0x6C#8]
  | .bit5L => [0xCB#8, 0x6D#8]
  | .bit5AtHl => [0xCB#8, 0x6E#8]
  | .bit5A => [0xCB#8, 0x6F#8]
  | .bit6B => [0xCB#8, 0x70#8]
  | .bit6C => [0xCB#8, 0x71#8]
  | .bit6D => [0xCB#8, 0x72#8]
  | .bit6E => [0xCB#8, 0x73#8]
  | .bit6H => [0xCB#8, 0x74#8]
  | .bit6L => [0xCB#8, 0x75#8]
  | .bit6AtHl => [0xCB#8, 0x76#8]
  | .bit6A => [0xCB#8, 0x77#8]
  | .bit7B => [0xCB#8, 0x78#8]
  | .bit7C => [0xCB#8, 0x79#8]
  | .bit7D => [0xCB#8, 0x7A#8]
  | .bit7E => [0xCB#8, 0x7B#8]
  | .bit7H => [0xCB#8, 0x7C#8]
  | .bit7L => [0xCB#8, 0x7D#8]
  | .bit7AtHl => [0xCB#8, 0x7E#8]
  | .bit7A => [0xCB#8, 0x7F#8]
  | .res0B => [0xCB#8, 0x80#8]
  | .res0C => [0xCB#8, 0x81#8]
  | .res0D => [0xCB#8, 0x82#8]
  | .res0E => [0xCB#8, 0x83#8]
  | .res0H => [0xCB#8, 0x84#8]
  | .res0L => [0xCB#8, 0x85#8]
  | .res0AtHl => [0xCB#8, 0x86#8]
  | .res0A => [0xCB#8, 0x87#8]
  | .res1B => [0xCB#8, 0x88#8]
  | .res1C => [0xCB#8, 0x89#8]
  | .res1D => [0xCB#8, 0x8A#8]
  | .res1E => [0xCB#8, 0x8B#8]
  | .res1H => [0xCB#8, 0x8C#8]
  | .res1L => [0xCB#8, 0x8D#8]
  | .res1AtHl => [0xCB#8, 0x8E#8]
  | .res1A => [0xCB#8, 0x8F#8]
  | .res2B => [0xCB#8, 0x90#8]
  | .res2C => [0xCB#8, 0x91#8]
  | .res2D => [0xCB#8, 0x92#8]
  | .res2E => [0xCB#8, 0x93#8]
  | .res2H => [0xCB#8, 0x94#8]
  | .res2L => [0xCB#8, 0x95#8]
  | .res2AtHl => [0xCB#8, 0x96#8]
  | .res2A => [0xCB#8, 0x97#8]
  | .res3B => [0xCB#8, 0x98#8]
  | .res3C => [0xCB#8, 0x99#8]
  | .res3D => [0xCB#8, 0x9A#8]
  | .res3E => [0xCB#8, 0x9B#8]
  | .res3H => [0xCB#8, 0x9C#8]
  | .res3L => [0xCB#8, 0x9D#8]
  | .res3AtHl => [0xCB#8, 0x9E#8]
  | .res3A => [0xCB#8, 0x9F#8]
  | .res4B => [0xCB#8, 0xA0#8]
  | .res4C => [0xCB#8, 0xA1#8]
  | .res4D => [0xCB#8, 0xA2#8]
  | .res4E => [0xCB#8, 0xA3#8]
  | .res4H => [0xCB#8, 0xA4#8]
  | .res4L => [0xCB#8, 0xA5#8]
  | .res4AtHl => [0xCB#8, 0xA6#8]
  | .res4A => [0xCB#8, 0xA7#8]
  | .res5B => [0xCB#8, 0xA8#8]
  | .res5C => [0xCB#8, 0xA9#8]
  | .res5D => [0xCB#8, 0xAA#8]
  | .res5E => [0xCB#8, 0xAB#8]
  | .res5H => [0xCB#8, 0xAC#8]
  | .res5L => [0xCB#8, 0xAD#8]
  | .res5AtHl => [0xCB#8, 0xAE#8]
  | .res5A => [0xCB#8, 0xAF#8]
  | .res6B => [0xCB#8, 0xB0#8]
  | .res6C => [0xCB#8, 0xB1#8]
  | .res6D => [0xCB#8, 0xB2#8]
  | .res6E => [0xCB#8, 0xB3#8]
  | .res6H => [0xCB#8, 0xB4#8]
  | .res6L => [0xCB#8, 0xB5#8]
  | .res6AtHl => [0xCB#8, 0xB6#8]
  | .res6A => [0xCB#8, 0xB7#8]
  | .res7B => [0xCB#8, 0xB8#8]
  | .res7C => [0xCB#8, 0xB9#8]
  | .res7D => [0xCB#8, 0xBA#8]
  | .res7E => [0xCB#8, 0xBB#8]
  | .res7H => [0xCB#8, 0xBC#8]
  | .res7L => [0xCB#8, 0xBD#8]
  | .res7AtHl => [0xCB#8, 0xBE#8]
  | .res7A => [0xCB#8, 0xBF#8]
  | .set0B => [0xCB#8, 0xC0#8]
  | .set0C => [0xCB#8, 0xC1#8]
  | .set0D => [0xCB#8, 0xC2#8]
  | .set0E => [0xCB#8, 0xC3#8]
  | .set0H => [0xCB#8, 0xC4#8]
  | .set0L => [0xCB#8, 0xC5#8]
  | .set0AtHl => [0xCB#8, 0xC6#8]
  | .set0A => [0xCB#8, 0xC7#8]
  | .set1B => [0xCB#8, 0xC8#8]
  | .set1C => [0xCB#8, 0xC9#8]
  | .set1D => [0xCB#8, 0xCA#8]
  | .set1E => [0xCB#8, 0xCB#8]
  | .set1H => [0xCB#8, 0xCC#8]
  | .set1L => [0xCB#8, 0xCD#8]
  | .set1AtHl => [0xCB#8, 0xCE#8]
  | .set1A => [0xCB#8, 0xCF#8]
  | .set2B => [0xCB#8, 0xD0#8]
  | .set2C => [0xCB#8, 0xD1#8]
  | .set2D => [0xCB#8, 0xD2#8]
  | .set2E => [0xCB#8, 0xD3#8]
  | .set2H => [0xCB#8, 0xD4#8]
  | .set2L => [0xCB#8, 0xD5#8]
  | .set2AtHl => [0xCB#8, 0xD6#8]
  | .set2A => [0xCB#8, 0xD7#8]
  | .set3B => [0xCB#8, 0xD8#8]
  | .set3C => [0xCB#8, 0xD9#8]
  | .set3D => [0xCB#8, 0xDA#8]
  | .set3E => [0xCB#8, 0xDB#8]
  | .set3H => [0xCB#8, 0xDC#8]
  | .set3L => [0xCB#8, 0xDD#8]
  | .set3AtHl => [0xCB#8, 0xDE#8]
  | .set3A => [0xCB#8, 0xDF#8]
  | .set4B => [0xCB#8, 0xE0#8]
  | .set4C => [0xCB#8, 0xE1#8]
  | .set4D => [0xCB#8, 0xE2#8]
  | .set4E => [0xCB#8, 0xE3#8]
  | .set4H => [0xCB#8, 0xE4#8]
  | .set4L => [0xCB#8, 0xE5#8]
  | .set4AtHl => [0xCB#8, 0xE6#8]
  | .set4A => [0xCB#8, 0xE7#8]
  | .set5B => [0xCB#8, 0xE8#8]
  | .set5C => [0xCB#8, 0xE9#8]
  | .set5D => [0xCB#8, 0xEA#8]
  | .set5E => [0xCB#8, 0xEB#8]
  | .set5H => [0xCB#8, 0xEC#8]
  | .set5L => [0xCB#8, 0xED#8]
  | .set5AtHl => [0xCB#8, 0xEE#8]
  | .set5A => [0xCB#8, 0xEF#8]
  | .set6B => [0xCB#8, 0xF0#8]
  | .set6C => [0xCB#8, 0xF1#8]
  | .set6D => [0xCB#8, 0xF2#8]
  | .set6E => [0xCB#8, 0xF3#8]
  | .set6H => [0xCB#8, 0xF4#8]
  | .set6L => [0xCB#8, 0xF5#8]
  | .set6AtHl => [0xCB#8, 0xF6#8]
  | .set6A => [0xCB#8, 0xF7#8]
  | .set7B => [0xCB#8, 0xF8#8]
  | .set7C => [0xCB#8, 0xF9#8]
  | .set7D => [0xCB#8, 0xFA#8]
  | .set7E => [0xCB#8, 0xFB#8]
  | .set7H => [0xCB#8, 0xFC#8]
  | .set7L => [0xCB#8, 0xFD#8]
  | .set7AtHl => [0xCB#8, 0xFE#8]
  | .set7A => [0xCB#8, 0xFF#8]

/-- The three bytes that a word of the opcode table stands for, in memory order, every bit above `nbits` zero. A
16-bit row of the table is `0xCBnn` compared with `byte0 : byte1`, byte 0 in the HIGH half (R109; log entry 9);
every other word has its first byte in bits 7:0. -/
def tableBytes (nbits w : Nat) : List Byte :=
  let v := w % 2 ^ nbits
  if nbits = 16 ∧ v / 256 = 0xCB then [0xCB#8, BitVec.ofNat 8 v, 0#8]
  else [BitVec.ofNat 8 v, BitVec.ofNat 8 (v / 256), BitVec.ofNat 8 (v / 65536)]

/-- The instruction the decoder reads from a word of the opcode table. -/
def decodeTableWord (nbits w : Nat) : Option Instr :=
  match decode (tableBytes nbits w) with
  | .ok (i, _) => some i
  | .error _ => none

end Sys2Proof
end

