-- ==== Sys2Proof/Machine/Fetch.lean ====
section
/-! DEFINITION. Fetching an instruction: the common part of every step up to the pseudocode (spec 30_encoding.md R94;
20_memory.md R74; D20, D31), and placing bytes where a fetch reads them. -/

namespace Sys2Proof.Machine

/-- What a fetch gives: the instruction, the address of the following one, and the state after the reads. -/
structure Fetched where
  instr : Instr
  next : Word
  after : State
  deriving DecidableEq, Repr

/-- The rest of the fetch once the opcode at `a` is known: the extended opcode, or the operand bytes in ascending
order (R94, R97). -/
def fetchRest (s : State) (a : Word) (op : Byte) : Res Fetched :=
  match primaryEntry op with
  | .op i => pure { instr := i, next := a + 1#16, after := s }
  | .n8 make => do
    let (v, t) ← s.readByte (a + 1#16)
    pure { instr := make v, next := a + 2#16, after := t }
  | .e8 make => do
    let (v, t) ← s.readByte (a + 1#16)
    pure { instr := make v, next := a + 2#16, after := t }
  | .n16 make => do
    let (w, t) ← s.readWord (a + 1#16)
    pure { instr := make w, next := a + 3#16, after := t }
  | .cb => do
    let (ext, t) ← s.readByte (a + 1#16)
    pure { instr := extendedInstr ext, next := a + 2#16, after := t }

/-- `HALT` and `STOP`, the two opcodes that need the extension (R94, R305). -/
def needsExtension (op : Byte) : Bool := op == 0x76#8 || op == 0x10#8

/-- The fetch of a step (R94): the opcode at pc, the check for `HALT` and `STOP` before any other byte is read, then
the rest. The eleven illegal opcodes have no further byte and raise `InvalidOpcode` when executed (R286). -/
def fetchInstr (s : State) : Res Fetched := do
  let (op, t) ← s.readByte s.pc
  if needsExtension op && !s.interruptExt then .error (.unimplementedInstruction op s.pc)
  else fetchRest t s.pc op

/-- The state in which the pseudocode of the fetched instruction runs: `pc <- a0 + length` (R94, R26). -/
def Fetched.start (x : Fetched) : State := x.after.jump x.next

/-- Put a byte of storage where address `a` reads, a read-only region included: the loader's act, not the
program's. Where `a` names no stored byte nothing is placed. -/
def State.placeByte (s : State) (a : Word) (v : Byte) : State :=
  match s.target a with
  | .cell p _ => { s with mem := s.mem.write p v }
  | _ => s

/-- `placeByte` for consecutive addresses. -/
def State.placeBytes (s : State) (a : Word) : List Byte → State
  | [] => s
  | v :: rest => (s.placeByte a v).placeBytes (a + 1#16) rest

end Sys2Proof.Machine
end

