-- ==== Sys2Proof/Machine/Cycle.lean ====
section
/-! DEFINITION. What one step does: the base core's step (spec 30_encoding.md R94), and the step with the interrupt
extension (60_exceptions.md R324). -/

namespace Sys2Proof.Machine

/-- `step()` of R94: fetch, advance pc, run the instruction. -/
def runInstruction (s : State) : Out :=
  match fetchInstr s with
  | .error k => .fault k
  | .ok x => exec x.instr x.start

/-- The instruction executed is `DI` (R324). -/
def isDi : Instr → Bool
  | .di => true
  | _ => false

/-- The last lines of R324: `ime` becomes 1 after the instruction that follows an `EI`, unless that was `DI`. -/
def settleEi (e : Bool) (i : Instr) : Out → Out
  | .next t => .next (if e && !isDi i then { t with ime := true } else t)
  | .fault k => .fault k
  | .refused r => .refused r

/-- The instruction part of R324: take and clear `ei_pending`, step, settle `ime`. -/
def runAfterCheck (s : State) : Out :=
  match fetchInstr { s with eiPending := false } with
  | .error k => .fault k
  | .ok x => settleEi s.eiPending x.instr (exec x.instr x.start)

/-- R324 once the pending sources are known: idle, wake, dispatch, or run an instruction. -/
def stepWithPending (pending : Byte) (s : State) : Out :=
  if s.halted && pending == 0#8 then .next { s with cycles := 1 }
  else
    let s := { s with halted := false }
    if s.ime && pending != 0#8 then finish 5 (s.takeInterrupt (lowestSource pending))
    else runAfterCheck s

/-- `step_ext()` (R324). -/
def stepWithInterrupts (s : State) : Out :=
  match s.pendingSources with
  | .error k => .fault k
  | .ok (pending, t) => stepWithPending pending t

/-- One step: R324 where `INTERRUPT_EXT` is present, R94 in the base core. -/
def oneStep (s : State) : Out :=
  if s.interruptExt then stepWithInterrupts s else runInstruction s

end Sys2Proof.Machine
end

