-- ==== Sys2Proof/Machine/Step.lean ====
section
/-! DEFINITION. The step, and the placing of a word where the step fetches its next instruction. -/

namespace Sys2Proof.Machine

/-- One step (spec 00_scope.md R11). -/
def step (s : State) : Host.Outcome State Fault Refusal := oneStep s

/-- `s` with the word of an instruction stored at pc, where `step` fetches (log entry 8). -/
def State.withFetchWord (s : State) (nbits w : Nat) : State := s.placeBytes s.pc (tableBytes nbits w)

end Sys2Proof.Machine
end

