-- ==== Sys2Proof/Machine/Disasm.lean ====
section
/-! DEFINITION. The disassembler view `mnemonic(address)` (spec 60_exceptions.md R315, R316; D21). The text of each
row is the table's own mnemonic with its operand put in. -/

namespace Sys2Proof.Machine

/-- One upper-case hexadecimal digit. -/
def hexDigit (n : Nat) : Char := if n < 10 then Char.ofNat (48 + n) else Char.ofNat (55 + n)

/-- `hex2`: two upper-case hexadecimal digits. -/
def hex2 (v : Byte) : String := String.ofList [hexDigit (v.toNat / 16), hexDigit (v.toNat % 16)]

/-- `hex4`: four upper-case hexadecimal digits. -/
def hex4 (w : Word) : String := hex2 (hiByte w) ++ hex2 (loByte w)

/-- A number up to 999 in decimal, without leading zeros. -/
def decimalText (n : Nat) : String :=
  String.ofList
    ((if n ≥ 100 then [hexDigit (n / 100 % 10)] else []) ++ (if n ≥ 10 then [hexDigit (n / 10 % 10)] else []) ++
      [hexDigit (n % 10)])

/-- A displacement as a signed decimal with its sign. -/
def signedText (e8 : Byte) : String :=
  if e8.toNat < 128 then "+" ++ decimalText e8.toNat else "-" ++ decimalText (256 - e8.toNat)

/-- The address a `JR` at `at_` shows: `a + 2 + sext_16(v)`. -/
def relativeTarget (at_ : Word) (e8 : Byte) : Word := at_ + 2#16 + sext16 e8

/-- The text of an instruction at an address (R315). -/
def textOf (at_ : Word) : Instr → String
  | .nop => "NOP"
  | .ldBcN16 n16 => "LD BC,$" ++ hex4 n16
  | .ldAtBcA => "LD (BC),A"
  | .incBc => "INC BC"
  | .incB => "INC B"
  | .decB => "DEC B"
  | .ldBN8 n8 => "LD B,$" ++ hex2 n8
  | .rlca => "RLCA"
  | .ldAtN16Sp n16 => "LD ($" ++ hex4 n16 ++ "),SP"
  | .addHlBc => "ADD HL,BC"
  | .ldAAtBc => "LD A,(BC)"
  | .decBc => "DEC BC"
  | .incC => "INC C"
  | .decC => "DEC C"
  | .ldCN8 n8 => "LD C,$" ++ hex2 n8
  | .rrca => "RRCA"
  | .stop _ => "STOP"
  | .ldDeN16 n16 => "LD DE,$" ++ hex4 n16
  | .ldAtDeA => "LD (DE),A"
  | .incDe => "INC DE"
  | .incD => "INC D"
  | .decD => "DEC D"
  | .ldDN8 n8 => "LD D,$" ++ hex2 n8
  | .rla => "RLA"
  | .jrE8 e8 => "JR $" ++ hex4 (relativeTarget at_ e8)
  | .addHlDe => "ADD HL,DE"
  | .ldAAtDe => "LD A,(DE)"
  | .decDe => "DEC DE"
  | .incE => "INC E"
  | .decE => "DEC E"
  | .ldEN8 n8 => "LD E,$" ++ hex2 n8
  | .rra => "RRA"
  | .jrNzE8 e8 => "JR NZ,$" ++ hex4 (relativeTarget at_ e8)
  | .ldHlN16 n16 => "LD HL,$" ++ hex4 n16
  | .ldAtHliA => "LD (HL+),A"
  | .incHl => "INC HL"
  | .incH => "INC H"
  | .decH => "DEC H"
  | .ldHN8 n8 => "LD H,$" ++ hex2 n8
  | .daa => "DAA"
  | .jrZE8 e8 => "JR Z,$" ++ hex4 (relativeTarget at_ e8)
  | .addHlHl => "ADD HL,HL"
  | .ldAAtHli => "LD A,(HL+)"
  | .decHl => "DEC HL"
  | .incL => "INC L"
  | .decL => "DEC L"
  | .ldLN8 n8 => "LD L,$" ++ hex2 n8
  | .cpl => "CPL"
  | .jrNcE8 e8 => "JR NC,$" ++ hex4 (relativeTarget at_ e8)
  | .ldSpN16 n16 => "LD SP,$" ++ hex4 n16
  | .ldAtHldA => "LD (HL-),A"
  | .incSp => "INC SP"
  | .incAtHl => "INC (HL)"
  | .decAtHl => "DEC (HL)"
  | .ldAtHlN8 n8 => "LD (HL),$" ++ hex2 n8
  | .scf => "SCF"
  | .jrCE8 e8 => "JR C,$" ++ hex4 (relativeTarget at_ e8)
  | .addHlSp => "ADD HL,SP"
  | .ldAAtHld => "LD A,(HL-)"
  | .decSp => "DEC SP"
  | .incA => "INC A"
  | .decA => "DEC A"
  | .ldAN8 n8 => "LD A,$" ++ hex2 n8
  | .ccf => "CCF"
  | .ldBB => "LD B,B"
  | .ldBC => "LD B,C"
  | .ldBD => "LD B,D"
  | .ldBE => "LD B,E"
  | .ldBH => "LD B,H"
  | .ldBL => "LD B,L"
  | .ldBAtHl => "LD B,(HL)"
  | .ldBA => "LD B,A"
  | .ldCB => "LD C,B"
  | .ldCC => "LD C,C"
  | .ldCD => "LD C,D"
  | .ldCE => "LD C,E"
  | .ldCH => "LD C,H"
  | .ldCL => "LD C,L"
  | .ldCAtHl => "LD C,(HL)"
  | .ldCA => "LD C,A"
  | .ldDB => "LD D,B"
  | .ldDC => "LD D,C"
  | .ldDD => "LD D,D"
  | .ldDE => "LD D,E"
  | .ldDH => "LD D,H"
  | .ldDL => "LD D,L"
  | .ldDAtHl => "LD D,(HL)"
  | .ldDA => "LD D,A"
  | .ldEB => "LD E,B"
  | .ldEC => "LD E,C"
  | .ldED => "LD E,D"
  | .ldEE => "LD E,E"
  | .ldEH => "LD E,H"
  | .ldEL => "LD E,L"
  | .ldEAtHl => "LD E,(HL)"
  | .ldEA => "LD E,A"
  | .ldHB => "LD H,B"
  | .ldHC => "LD H,C"
  | .ldHD => "LD H,D"
  | .ldHE => "LD H,E"
  | .ldHH => "LD H,H"
  | .ldHL => "LD H,L"
  | .ldHAtHl => "LD H,(HL)"
  | .ldHA => "LD H,A"
  | .ldLB => "LD L,B"
  | .ldLC => "LD L,C"
  | .ldLD => "LD L,D"
  | .ldLE => "LD L,E"
  | .ldLH => "LD L,H"
  | .ldLL => "LD L,L"
  | .ldLAtHl => "LD L,(HL)"
  | .ldLA => "LD L,A"
  | .ldAtHlB => "LD (HL),B"
  | .ldAtHlC => "LD (HL),C"
  | .ldAtHlD => "LD (HL),D"
  | .ldAtHlE => "LD (HL),E"
  | .ldAtHlH => "LD (HL),H"
  | .ldAtHlL => "LD (HL),L"
  | .halt => "HALT"
  | .ldAtHlA => "LD (HL),A"
  | .ldAB => "LD A,B"
  | .ldAC => "LD A,C"
  | .ldAD => "LD A,D"
  | .ldAE => "LD A,E"
  | .ldAH => "LD A,H"
  | .ldAL => "LD A,L"
  | .ldAAtHl => "LD A,(HL)"
  | .ldAA => "LD A,A"
  | .addB => "ADD A,B"
  | .addC => "ADD A,C"
  | .addD => "ADD A,D"
  | .addE => "ADD A,E"
  | .addH => "ADD A,H"
  | .addL => "ADD A,L"
  | .addAtHl => "ADD A,(HL)"
  | .addA => "ADD A,A"
  | .adcB => "ADC A,B"
  | .adcC => "ADC A,C"
  | .adcD => "ADC A,D"
  | .adcE => "ADC A,E"
  | .adcH => "ADC A,H"
  | .adcL => "ADC A,L"
  | .adcAtHl => "ADC A,(HL)"
  | .adcA => "ADC A,A"
  | .subB => "SUB B"
  | .subC => "SUB C"
  | .subD => "SUB D"
  | .subE => "SUB E"
  | .subH => "SUB H"
  | .subL => "SUB L"
  | .subAtHl => "SUB (HL)"
  | .subA => "SUB A"
  | .sbcB => "SBC A,B"
  | .sbcC => "SBC A,C"
  | .sbcD => "SBC A,D"
  | .sbcE => "SBC A,E"
  | .sbcH => "SBC A,H"
  | .sbcL => "SBC A,L"
  | .sbcAtHl => "SBC A,(HL)"
  | .sbcA => "SBC A,A"
  | .andB => "AND B"
  | .andC => "AND C"
  | .andD => "AND D"
  | .andE => "AND E"
  | .andH => "AND H"
  | .andL => "AND L"
  | .andAtHl => "AND (HL)"
  | .andA => "AND A"
  | .xorB => "XOR B"
  | .xorC => "XOR C"
  | .xorD => "XOR D"
  | .xorE => "XOR E"
  | .xorH => "XOR H"
  | .xorL => "XOR L"
  | .xorAtHl => "XOR (HL)"
  | .xorA => "XOR A"
  | .orB => "OR B"
  | .orC => "OR C"
  | .orD => "OR D"
  | .orE => "OR E"
  | .orH => "OR H"
  | .orL => "OR L"
  | .orAtHl => "OR (HL)"
  | .orA => "OR A"
  | .cpB => "CP B"
  | .cpC => "CP C"
  | .cpD => "CP D"
  | .cpE => "CP E"
  | .cpH => "CP H"
  | .cpL => "CP L"
  | .cpAtHl => "CP (HL)"
  | .cpA => "CP A"
  | .retNz => "RET NZ"
  | .popBc => "POP BC"
  | .jpNzN16 n16 => "JP NZ,$" ++ hex4 n16
  | .jpN16 n16 => "JP $" ++ hex4 n16
  | .callNzN16 n16 => "CALL NZ,$" ++ hex4 n16
  | .pushBc => "PUSH BC"
  | .addN8 n8 => "ADD A,$" ++ hex2 n8
  | .rst00 => "RST $00"
  | .retZ => "RET Z"
  | .ret => "RET"
  | .jpZN16 n16 => "JP Z,$" ++ hex4 n16
  | .prefixCb _ => "PREFIX CB"
  | .callZN16 n16 => "CALL Z,$" ++ hex4 n16
  | .callN16 n16 => "CALL $" ++ hex4 n16
  | .adcN8 n8 => "ADC A,$" ++ hex2 n8
  | .rst08 => "RST $08"
  | .retNc => "RET NC"
  | .popDe => "POP DE"
  | .jpNcN16 n16 => "JP NC,$" ++ hex4 n16
  | .illegalD3 => "ILLEGAL_D3"
  | .callNcN16 n16 => "CALL NC,$" ++ hex4 n16
  | .pushDe => "PUSH DE"
  | .subN8 n8 => "SUB $" ++ hex2 n8
  | .rst10 => "RST $10"
  | .retC => "RET C"
  | .reti => "RETI"
  | .jpCN16 n16 => "JP C,$" ++ hex4 n16
  | .illegalDB => "ILLEGAL_DB"
  | .callCN16 n16 => "CALL C,$" ++ hex4 n16
  | .illegalDD => "ILLEGAL_DD"
  | .sbcN8 n8 => "SBC A,$" ++ hex2 n8
  | .rst18 => "RST $18"
  | .ldhAtN8A n8 => "LDH ($" ++ hex2 n8 ++ "),A"
  | .popHl => "POP HL"
  | .ldhAtCA => "LDH (C),A"
  | .illegalE3 => "ILLEGAL_E3"
  | .illegalE4 => "ILLEGAL_E4"
  | .pushHl => "PUSH HL"
  | .andN8 n8 => "AND $" ++ hex2 n8
  | .rst20 => "RST $20"
  | .addSpE8 e8 => "ADD SP," ++ signedText e8
  | .jpHl => "JP HL"
  | .ldAtN16A n16 => "LD ($" ++ hex4 n16 ++ "),A"
  | .illegalEB => "ILLEGAL_EB"
  | .illegalEC => "ILLEGAL_EC"
  | .illegalED => "ILLEGAL_ED"
  | .xorN8 n8 => "XOR $" ++ hex2 n8
  | .rst28 => "RST $28"
  | .ldhAAtN8 n8 => "LDH A,($" ++ hex2 n8 ++ ")"
  | .popAf => "POP AF"
  | .ldhAAtC => "LDH A,(C)"
  | .di => "DI"
  | .illegalF4 => "ILLEGAL_F4"
  | .pushAf => "PUSH AF"
  | .orN8 n8 => "OR $" ++ hex2 n8
  | .rst30 => "RST $30"
  | .ldHlSpE8 e8 => "LD HL,SP" ++ signedText e8
  | .ldSpHl => "LD SP,HL"
  | .ldAAtN16 n16 => "LD A,($" ++ hex4 n16 ++ ")"
  | .ei => "EI"
  | .illegalFC => "ILLEGAL_FC"
  | .illegalFD => "ILLEGAL_FD"
  | .cpN8 n8 => "CP $" ++ hex2 n8
  | .rst38 => "RST $38"
  | .rlcB => "RLC B"
  | .rlcC => "RLC C"
  | .rlcD => "RLC D"
  | .rlcE => "RLC E"
  | .rlcH => "RLC H"
  | .rlcL => "RLC L"
  | .rlcAtHl => "RLC (HL)"
  | .rlcA => "RLC A"
  | .rrcB => "RRC B"
  | .rrcC => "RRC C"
  | .rrcD => "RRC D"
  | .rrcE => "RRC E"
  | .rrcH => "RRC H"
  | .rrcL => "RRC L"
  | .rrcAtHl => "RRC (HL)"
  | .rrcA => "RRC A"
  | .rlB => "RL B"
  | .rlC => "RL C"
  | .rlD => "RL D"
  | .rlE => "RL E"
  | .rlH => "RL H"
  | .rlL => "RL L"
  | .rlAtHl => "RL (HL)"
  | .rlA => "RL A"
  | .rrB => "RR B"
  | .rrC => "RR C"
  | .rrD => "RR D"
  | .rrE => "RR E"
  | .rrH => "RR H"
  | .rrL => "RR L"
  | .rrAtHl => "RR (HL)"
  | .rrA => "RR A"
  | .slaB => "SLA B"
  | .slaC => "SLA C"
  | .slaD => "SLA D"
  | .slaE => "SLA E"
  | .slaH => "SLA H"
  | .slaL => "SLA L"
  | .slaAtHl => "SLA (HL)"
  | .slaA => "SLA A"
  | .sraB => "SRA B"
  | .sraC => "SRA C"
  | .sraD => "SRA D"
  | .sraE => "SRA E"
  | .sraH => "SRA H"
  | .sraL => "SRA L"
  | .sraAtHl => "SRA (HL)"
  | .sraA => "SRA A"
  | .swapB => "SWAP B"
  | .swapC => "SWAP C"
  | .swapD => "SWAP D"
  | .swapE => "SWAP E"
  | .swapH => "SWAP H"
  | .swapL => "SWAP L"
  | .swapAtHl => "SWAP (HL)"
  | .swapA => "SWAP A"
  | .srlB => "SRL B"
  | .srlC => "SRL C"
  | .srlD => "SRL D"
  | .srlE => "SRL E"
  | .srlH => "SRL H"
  | .srlL => "SRL L"
  | .srlAtHl => "SRL (HL)"
  | .srlA => "SRL A"
  | .bit0B => "BIT 0,B"
  | .bit0C => "BIT 0,C"
  | .bit0D => "BIT 0,D"
  | .bit0E => "BIT 0,E"
  | .bit0H => "BIT 0,H"
  | .bit0L => "BIT 0,L"
  | .bit0AtHl => "BIT 0,(HL)"
  | .bit0A => "BIT 0,A"
  | .bit1B => "BIT 1,B"
  | .bit1C => "BIT 1,C"
  | .bit1D => "BIT 1,D"
  | .bit1E => "BIT 1,E"
  | .bit1H => "BIT 1,H"
  | .bit1L => "BIT 1,L"
  | .bit1AtHl => "BIT 1,(HL)"
  | .bit1A => "BIT 1,A"
  | .bit2B => "BIT 2,B"
  | .bit2C => "BIT 2,C"
  | .bit2D => "BIT 2,D"
  | .bit2E => "BIT 2,E"
  | .bit2H => "BIT 2,H"
  | .bit2L => "BIT 2,L"
  | .bit2AtHl => "BIT 2,(HL)"
  | .bit2A => "BIT 2,A"
  | .bit3B => "BIT 3,B"
  | .bit3C => "BIT 3,C"
  | .bit3D => "BIT 3,D"
  | .bit3E => "BIT 3,E"
  | .bit3H => "BIT 3,H"
  | .bit3L => "BIT 3,L"
  | .bit3AtHl => "BIT 3,(HL)"
  | .bit3A => "BIT 3,A"
  | .bit4B => "BIT 4,B"
  | .bit4C => "BIT 4,C"
  | .bit4D => "BIT 4,D"
  | .bit4E => "BIT 4,E"
  | .bit4H => "BIT 4,H"
  | .bit4L => "BIT 4,L"
  | .bit4AtHl => "BIT 4,(HL)"
  | .bit4A => "BIT 4,A"
  | .bit5B => "BIT 5,B"
  | .bit5C => "BIT 5,C"
  | .bit5D => "BIT 5,D"
  | .bit5E => "BIT 5,E"
  | .bit5H => "BIT 5,H"
  | .bit5L => "BIT 5,L"
  | .bit5AtHl => "BIT 5,(HL)"
  | .bit5A => "BIT 5,A"
  | .bit6B => "BIT 6,B"
  | .bit6C => "BIT 6,C"
  | .bit6D => "BIT 6,D"
  | .bit6E => "BIT 6,E"
  | .bit6H => "BIT 6,H"
  | .bit6L => "BIT 6,L"
  | .bit6AtHl => "BIT 6,(HL)"
  | .bit6A => "BIT 6,A"
  | .bit7B => "BIT 7,B"
  | .bit7C => "BIT 7,C"
  | .bit7D => "BIT 7,D"
  | .bit7E => "BIT 7,E"
  | .bit7H => "BIT 7,H"
  | .bit7L => "BIT 7,L"
  | .bit7AtHl => "BIT 7,(HL)"
  | .bit7A => "BIT 7,A"
  | .res0B => "RES 0,B"
  | .res0C => "RES 0,C"
  | .res0D => "RES 0,D"
  | .res0E => "RES 0,E"
  | .res0H => "RES 0,H"
  | .res0L => "RES 0,L"
  | .res0AtHl => "RES 0,(HL)"
  | .res0A => "RES 0,A"
  | .res1B => "RES 1,B"
  | .res1C => "RES 1,C"
  | .res1D => "RES 1,D"
  | .res1E => "RES 1,E"
  | .res1H => "RES 1,H"
  | .res1L => "RES 1,L"
  | .res1AtHl => "RES 1,(HL)"
  | .res1A => "RES 1,A"
  | .res2B => "RES 2,B"
  | .res2C => "RES 2,C"
  | .res2D => "RES 2,D"
  | .res2E => "RES 2,E"
  | .res2H => "RES 2,H"
  | .res2L => "RES 2,L"
  | .res2AtHl => "RES 2,(HL)"
  | .res2A => "RES 2,A"
  | .res3B => "RES 3,B"
  | .res3C => "RES 3,C"
  | .res3D => "RES 3,D"
  | .res3E => "RES 3,E"
  | .res3H => "RES 3,H"
  | .res3L => "RES 3,L"
  | .res3AtHl => "RES 3,(HL)"
  | .res3A => "RES 3,A"
  | .res4B => "RES 4,B"
  | .res4C => "RES 4,C"
  | .res4D => "RES 4,D"
  | .res4E => "RES 4,E"
  | .res4H => "RES 4,H"
  | .res4L => "RES 4,L"
  | .res4AtHl => "RES 4,(HL)"
  | .res4A => "RES 4,A"
  | .res5B => "RES 5,B"
  | .res5C => "RES 5,C"
  | .res5D => "RES 5,D"
  | .res5E => "RES 5,E"
  | .res5H => "RES 5,H"
  | .res5L => "RES 5,L"
  | .res5AtHl => "RES 5,(HL)"
  | .res5A => "RES 5,A"
  | .res6B => "RES 6,B"
  | .res6C => "RES 6,C"
  | .res6D => "RES 6,D"
  | .res6E => "RES 6,E"
  | .res6H => "RES 6,H"
  | .res6L => "RES 6,L"
  | .res6AtHl => "RES 6,(HL)"
  | .res6A => "RES 6,A"
  | .res7B => "RES 7,B"
  | .res7C => "RES 7,C"
  | .res7D => "RES 7,D"
  | .res7E => "RES 7,E"
  | .res7H => "RES 7,H"
  | .res7L => "RES 7,L"
  | .res7AtHl => "RES 7,(HL)"
  | .res7A => "RES 7,A"
  | .set0B => "SET 0,B"
  | .set0C => "SET 0,C"
  | .set0D => "SET 0,D"
  | .set0E => "SET 0,E"
  | .set0H => "SET 0,H"
  | .set0L => "SET 0,L"
  | .set0AtHl => "SET 0,(HL)"
  | .set0A => "SET 0,A"
  | .set1B => "SET 1,B"
  | .set1C => "SET 1,C"
  | .set1D => "SET 1,D"
  | .set1E => "SET 1,E"
  | .set1H => "SET 1,H"
  | .set1L => "SET 1,L"
  | .set1AtHl => "SET 1,(HL)"
  | .set1A => "SET 1,A"
  | .set2B => "SET 2,B"
  | .set2C => "SET 2,C"
  | .set2D => "SET 2,D"
  | .set2E => "SET 2,E"
  | .set2H => "SET 2,H"
  | .set2L => "SET 2,L"
  | .set2AtHl => "SET 2,(HL)"
  | .set2A => "SET 2,A"
  | .set3B => "SET 3,B"
  | .set3C => "SET 3,C"
  | .set3D => "SET 3,D"
  | .set3E => "SET 3,E"
  | .set3H => "SET 3,H"
  | .set3L => "SET 3,L"
  | .set3AtHl => "SET 3,(HL)"
  | .set3A => "SET 3,A"
  | .set4B => "SET 4,B"
  | .set4C => "SET 4,C"
  | .set4D => "SET 4,D"
  | .set4E => "SET 4,E"
  | .set4H => "SET 4,H"
  | .set4L => "SET 4,L"
  | .set4AtHl => "SET 4,(HL)"
  | .set4A => "SET 4,A"
  | .set5B => "SET 5,B"
  | .set5C => "SET 5,C"
  | .set5D => "SET 5,D"
  | .set5E => "SET 5,E"
  | .set5H => "SET 5,H"
  | .set5L => "SET 5,L"
  | .set5AtHl => "SET 5,(HL)"
  | .set5A => "SET 5,A"
  | .set6B => "SET 6,B"
  | .set6C => "SET 6,C"
  | .set6D => "SET 6,D"
  | .set6E => "SET 6,E"
  | .set6H => "SET 6,H"
  | .set6L => "SET 6,L"
  | .set6AtHl => "SET 6,(HL)"
  | .set6A => "SET 6,A"
  | .set7B => "SET 7,B"
  | .set7C => "SET 7,C"
  | .set7D => "SET 7,D"
  | .set7E => "SET 7,E"
  | .set7H => "SET 7,H"
  | .set7L => "SET 7,L"
  | .set7AtHl => "SET 7,(HL)"
  | .set7A => "SET 7,A"

/-- `mnemonic(a)` (R315): the fetch of a step, at any address, and the text of what it finds, with the state after its
reads. They go through the handlers like any read: a device sees them in `extCalls`, and nothing else of the state
changes. `HALT`, `STOP` and the illegal opcodes render without failing. -/
def mnemonic (s : State) (a : Word) : Res (String × State) := do
  let (op, t) ← s.readByte a
  let x ← fetchRest t a op
  pure (textOf a x.instr, x.after)

end Sys2Proof.Machine
end

