-- ==== Sys2Proof/Machine/Launch.lean ====
section
/-! DEFINITION. Construction, the machine's only reset: `init(image, launch arguments)` (spec 70_reset_and_hazards.md
R340 to R348; 10_state.md R41; 00_scope.md R5). -/

namespace Sys2Proof.Machine

/-- The cartridge image and the launch arguments: everything R5 and R41 leave OPEN. -/
structure Launch where
  /-- The cartridge image, byte for byte (R343); at least 0x8000 bytes (R55, R347, D4). -/
  image : List Byte
  a : Byte
  /-- Bits 7:4 of F; bits 3:0 are 0 (R342). -/
  fHigh : BitVec 4
  b : Byte
  c : Byte
  d : Byte
  e : Byte
  h : Byte
  l : Byte
  sp : Word
  /-- The initial pc (R341, D15: 0x0100 unless a launch says otherwise). -/
  pc : Word
  /-- `wram_slot1`, 1 to 7 (R33, D18). -/
  wramSlot1 : Fin 8
  /-- The contents of the writable buffers and of the handlers' buffers (R343); its `rom` and `ie` are not used. -/
  buffers : Memory
  handlers : Handlers
  interruptExt : Bool
  deriving DecidableEq, Repr

/-- `ROM_BANKS`: the whole 0x4000-byte banks of the image (R5, D4). -/
def Launch.romBanks (x : Launch) : Nat := x.image.length / Config.romBankSize

/-- The memory of a launch: the image, the given buffers, the `IE` byte 0 (R321, R343). -/
def Launch.memory (x : Launch) : Memory :=
  { x.buffers with rom := cellsOfBytes 0 (x.image.take (x.romBanks * Config.romBankSize)), ie := [] }

/-- What a launch must meet: an image of two banks (R55), a legal bank (R33), buffers in canonical form. -/
def Launch.legal (x : Launch) : Bool :=
  0x8000 ≤ x.image.length && 1 ≤ x.wramSlot1.val && x.memory.wf x.romBanks

/-- `init` (R340): no state for a launch that is not legal (U12, U14: refuse). The header bytes are not looked at
(R348). -/
def State.init (x : Launch) : Option State :=
  if x.legal then
    some { a := x.a, f := x.fHigh ++ 0#4, b := x.b, c := x.c, d := x.d, e := x.e, h := x.h, l := x.l,
           sp := x.sp, pc := x.pc, ime := false, halted := false, eiPending := false,
           wramSlot1 := x.wramSlot1, romSlot1 := 1, eramBank := 0, romBanks := x.romBanks,
           mem := x.memory, handlers := x.handlers, interruptExt := x.interruptExt, extCalls := [], cycles := 0 }
  else none

/-- The launch whose result is `State.reset` (log entries 1, 2, 3): an image of 0x8000 zero bytes, every other
argument as the log names it. -/
def Launch.default : Launch :=
  { image := List.replicate 0x8000 0x00#8, a := 0#8, fHigh := 0#4, b := 0#8, c := 0#8, d := 0#8, e := 0#8, h := 0#8,
    l := 0#8, sp := 0xDFF0#16, pc := Config.resetPc, wramSlot1 := 1, buffers := Memory.empty,
    handlers := Handlers.none, interruptExt := false }

end Sys2Proof.Machine
end

