-- ==== Sys2Proof/Machine/Forms.lean ====
section
/-! DEFINITION. The instruction FORMS of the spec, one for each instruction rule of 40_load8.md to 47_misc.md (or for
the eight rules of one shape), and the form each row of the opcode table is of. Statements speak of a form where the
spec does; `exec` does not use them. -/

namespace Sys2Proof.Machine

/-- The pairs that point in `LD A,(BC)`, `LD A,(DE)`, `LD (BC),A`, `LD (DE),A`. -/
inductive PtrPair where
  | bc | de
  deriving DecidableEq, Repr

/-- `(HL+)` or `(HL-)`. -/
inductive HlStep where
  | inc | dec
  deriving DecidableEq, Repr

/-- The eleven opcodes that name no instruction (30_encoding.md R105). -/
inductive IllegalOp where
  | opD3 | opDB | opDD | opE3 | opE4 | opEB | opEC | opED | opF4 | opFC | opFD
  deriving DecidableEq, Repr

/-- The instruction forms, each with its rule. -/
inductive Form where
  | ldRegReg (dst r : Reg8)               -- R120 LD r,r'
  | ldRegImm (dst : Reg8) (n8 : Byte)     -- R121 LD r,n8
  | ldRegMem (dst : Reg8)                 -- R122 LD r,(HL)
  | ldMemReg (r : Reg8)                   -- R123 LD (HL),r
  | ldMemImm (n8 : Byte)                  -- R124 LD (HL),n8
  | loadA (p : PtrPair)                   -- R125 LD A,(BC); R126 LD A,(DE)
  | storeA (p : PtrPair)                  -- R127 LD (BC),A; R128 LD (DE),A
  | loadAbs (n16 : Word)                  -- R129 LD A,(n16)
  | storeAbs (n16 : Word)                 -- R130 LD (n16),A
  | loadHighImm (n8 : Byte)               -- R131 LDH A,(n8)
  | storeHighImm (n8 : Byte)              -- R132 LDH (n8),A
  | loadHighC                             -- R133 LDH A,(C)
  | storeHighC                            -- R134 LDH (C),A
  | storeAStep (dir : HlStep)             -- R135 LD (HL+),A; R136 LD (HL-),A
  | loadAStep (dir : HlStep)              -- R137 LD A,(HL+); R138 LD A,(HL-)
  | ldPairImm (p : Pair) (n16 : Word)     -- R150 LD rr,n16
  | ldMemSp (n16 : Word)                  -- R151 LD (n16),SP
  | ldSpHl                                -- R152 LD SP,HL
  | ldHlSp (e8 : Byte)                    -- R153 LD HL,SP+e8
  | push (p : StackPair)                  -- R154 PUSH rr
  | pop (p : StackPair)                   -- R155 POP rr; R156 POP AF
  | aluReg (op : AluOp) (r : Reg8)        -- R166 to R187 with r
  | aluMem (op : AluOp)                   -- R167 to R188 with (HL)
  | aluImm (op : AluOp) (n8 : Byte)       -- R168 to R189 with n8
  | incReg (r : Reg8)                     -- R190 INC r
  | incMem                                -- R191 INC (HL)
  | decReg (r : Reg8)                     -- R192 DEC r
  | decMem                                -- R193 DEC (HL)
  | daa                                   -- R194
  | cpl                                   -- R195
  | scf                                   -- R196
  | ccf                                   -- R197
  | addHl (p : Pair)                      -- R210 ADD HL,rr
  | incPair (p : Pair)                    -- R211 INC rr
  | decPair (p : Pair)                    -- R212 DEC rr
  | addSp (e8 : Byte)                     -- R213 ADD SP,e8
  | rotA (op : RotOp)                     -- R220 RLCA, R221 RRCA, R222 RLA, R223 RRA (op rlc, rrc, rl, rr)
  | rotReg (op : RotOp) (r : Reg8)        -- R225 to R239 with r
  | rotMem (op : RotOp)                   -- R226 to R240 with (HL)
  | bitReg (b : Fin 8) (r : Reg8)         -- R250 BIT b,r
  | bitMem (b : Fin 8)                    -- R251 BIT b,(HL)
  | resReg (b : Fin 8) (r : Reg8)         -- R252 RES b,r
  | resMem (b : Fin 8)                    -- R253 RES b,(HL)
  | setReg (b : Fin 8) (r : Reg8)         -- R254 SET b,r
  | setMem (b : Fin 8)                    -- R255 SET b,(HL)
  | jp (n16 : Word)                       -- R261 JP n16
  | jpCond (cc : Cond) (n16 : Word)       -- R262 JP cc,n16
  | jpHl                                  -- R263 JP HL
  | jr (e8 : Byte)                        -- R264 JR e8
  | jrCond (cc : Cond) (e8 : Byte)        -- R265 JR cc,e8
  | call (n16 : Word)                     -- R266 CALL n16
  | callCond (cc : Cond) (n16 : Word)     -- R267 CALL cc,n16
  | ret                                   -- R268 RET
  | retCond (cc : Cond)                   -- R269 RET cc
  | reti                                  -- R270 RETI
  | rst (t : Fin 8)                       -- R271 RST t
  | nop                                   -- R280 NOP
  | stop (n8 : Byte)                      -- R281 STOP
  | halt                                  -- R282 HALT
  | di                                    -- R283 DI
  | ei                                    -- R284 EI
  | prefixCb (ext : Byte)                 -- R285 PREFIX CB
  | illegal (op : IllegalOp)              -- R286 the eleven illegal opcodes
  deriving DecidableEq, Repr

/-- The form of each row. -/
def formOf : Instr → Form
  | .nop => .nop
  | .ldBcN16 n16 => .ldPairImm .bc n16
  | .ldAtBcA => .storeA .bc
  | .incBc => .incPair .bc
  | .incB => .incReg .b
  | .decB => .decReg .b
  | .ldBN8 n8 => .ldRegImm .b n8
  | .rlca => .rotA .rlc
  | .ldAtN16Sp n16 => .ldMemSp n16
  | .addHlBc => .addHl .bc
  | .ldAAtBc => .loadA .bc
  | .decBc => .decPair .bc
  | .incC => .incReg .c
  | .decC => .decReg .c
  | .ldCN8 n8 => .ldRegImm .c n8
  | .rrca => .rotA .rrc
  | .stop n8 => .stop n8
  | .ldDeN16 n16 => .ldPairImm .de n16
  | .ldAtDeA => .storeA .de
  | .incDe => .incPair .de
  | .incD => .incReg .d
  | .decD => .decReg .d
  | .ldDN8 n8 => .ldRegImm .d n8
  | .rla => .rotA .rl
  | .jrE8 e8 => .jr e8
  | .addHlDe => .addHl .de
  | .ldAAtDe => .loadA .de
  | .decDe => .decPair .de
  | .incE => .incReg .e
  | .decE => .decReg .e
  | .ldEN8 n8 => .ldRegImm .e n8
  | .rra => .rotA .rr
  | .jrNzE8 e8 => .jrCond .nz e8
  | .ldHlN16 n16 => .ldPairImm .hl n16
  | .ldAtHliA => .storeAStep .inc
  | .incHl => .incPair .hl
  | .incH => .incReg .h
  | .decH => .decReg .h
  | .ldHN8 n8 => .ldRegImm .h n8
  | .daa => .daa
  | .jrZE8 e8 => .jrCond .z e8
  | .addHlHl => .addHl .hl
  | .ldAAtHli => .loadAStep .inc
  | .decHl => .decPair .hl
  | .incL => .incReg .l
  | .decL => .decReg .l
  | .ldLN8 n8 => .ldRegImm .l n8
  | .cpl => .cpl
  | .jrNcE8 e8 => .jrCond .nc e8
  | .ldSpN16 n16 => .ldPairImm .sp n16
  | .ldAtHldA => .storeAStep .dec
  | .incSp => .incPair .sp
  | .incAtHl => .incMem
  | .decAtHl => .decMem
  | .ldAtHlN8 n8 => .ldMemImm n8
  | .scf => .scf
  | .jrCE8 e8 => .jrCond .c e8
  | .addHlSp => .addHl .sp
  | .ldAAtHld => .loadAStep .dec
  | .decSp => .decPair .sp
  | .incA => .incReg .a
  | .decA => .decReg .a
  | .ldAN8 n8 => .ldRegImm .a n8
  | .ccf => .ccf
  | .ldBB => .ldRegReg .b .b
  | .ldBC => .ldRegReg .b .c
  | .ldBD => .ldRegReg .b .d
  | .ldBE => .ldRegReg .b .e
  | .ldBH => .ldRegReg .b .h
  | .ldBL => .ldRegReg .b .l
  | .ldBAtHl => .ldRegMem .b
  | .ldBA => .ldRegReg .b .a
  | .ldCB => .ldRegReg .c .b
  | .ldCC => .ldRegReg .c .c
  | .ldCD => .ldRegReg .c .d
  | .ldCE => .ldRegReg .c .e
  | .ldCH => .ldRegReg .c .h
  | .ldCL => .ldRegReg .c .l
  | .ldCAtHl => .ldRegMem .c
  | .ldCA => .ldRegReg .c .a
  | .ldDB => .ldRegReg .d .b
  | .ldDC => .ldRegReg .d .c
  | .ldDD => .ldRegReg .d .d
  | .ldDE => .ldRegReg .d .e
  | .ldDH => .ldRegReg .d .h
  | .ldDL => .ldRegReg .d .l
  | .ldDAtHl => .ldRegMem .d
  | .ldDA => .ldRegReg .d .a
  | .ldEB => .ldRegReg .e .b
  | .ldEC => .ldRegReg .e .c
  | .ldED => .ldRegReg .e .d
  | .ldEE => .ldRegReg .e .e
  | .ldEH => .ldRegReg .e .h
  | .ldEL => .ldRegReg .e .l
  | .ldEAtHl => .ldRegMem .e
  | .ldEA => .ldRegReg .e .a
  | .ldHB => .ldRegReg .h .b
  | .ldHC => .ldRegReg .h .c
  | .ldHD => .ldRegReg .h .d
  | .ldHE => .ldRegReg .h .e
  | .ldHH => .ldRegReg .h .h
  | .ldHL => .ldRegReg .h .l
  | .ldHAtHl => .ldRegMem .h
  | .ldHA => .ldRegReg .h .a
  | .ldLB => .ldRegReg .l .b
  | .ldLC => .ldRegReg .l .c
  | .ldLD => .ldRegReg .l .d
  | .ldLE => .ldRegReg .l .e
  | .ldLH => .ldRegReg .l .h
  | .ldLL => .ldRegReg .l .l
  | .ldLAtHl => .ldRegMem .l
  | .ldLA => .ldRegReg .l .a
  | .ldAtHlB => .ldMemReg .b
  | .ldAtHlC => .ldMemReg .c
  | .ldAtHlD => .ldMemReg .d
  | .ldAtHlE => .ldMemReg .e
  | .ldAtHlH => .ldMemReg .h
  | .ldAtHlL => .ldMemReg .l
  | .halt => .halt
  | .ldAtHlA => .ldMemReg .a
  | .ldAB => .ldRegReg .a .b
  | .ldAC => .ldRegReg .a .c
  | .ldAD => .ldRegReg .a .d
  | .ldAE => .ldRegReg .a .e
  | .ldAH => .ldRegReg .a .h
  | .ldAL => .ldRegReg .a .l
  | .ldAAtHl => .ldRegMem .a
  | .ldAA => .ldRegReg .a .a
  | .addB => .aluReg .add .b
  | .addC => .aluReg .add .c
  | .addD => .aluReg .add .d
  | .addE => .aluReg .add .e
  | .addH => .aluReg .add .h
  | .addL => .aluReg .add .l
  | .addAtHl => .aluMem .add
  | .addA => .aluReg .add .a
  | .adcB => .aluReg .adc .b
  | .adcC => .aluReg .adc .c
  | .adcD => .aluReg .adc .d
  | .adcE => .aluReg .adc .e
  | .adcH => .aluReg .adc .h
  | .adcL => .aluReg .adc .l
  | .adcAtHl => .aluMem .adc
  | .adcA => .aluReg .adc .a
  | .subB => .aluReg .sub .b
  | .subC => .aluReg .sub .c
  | .subD => .aluReg .sub .d
  | .subE => .aluReg .sub .e
  | .subH => .aluReg .sub .h
  | .subL => .aluReg .sub .l
  | .subAtHl => .aluMem .sub
  | .subA => .aluReg .sub .a
  | .sbcB => .aluReg .sbc .b
  | .sbcC => .aluReg .sbc .c
  | .sbcD => .aluReg .sbc .d
  | .sbcE => .aluReg .sbc .e
  | .sbcH => .aluReg .sbc .h
  | .sbcL => .aluReg .sbc .l
  | .sbcAtHl => .aluMem .sbc
  | .sbcA => .aluReg .sbc .a
  | .andB => .aluReg .and .b
  | .andC => .aluReg .and .c
  | .andD => .aluReg .and .d
  | .andE => .aluReg .and .e
  | .andH => .aluReg .and .h
  | .andL => .aluReg .and .l
  | .andAtHl => .aluMem .and
  | .andA => .aluReg .and .a
  | .xorB => .aluReg .xor .b
  | .xorC => .aluReg .xor .c
  | .xorD => .aluReg .xor .d
  | .xorE => .aluReg .xor .e
  | .xorH => .aluReg .xor .h
  | .xorL => .aluReg .xor .l
  | .xorAtHl => .aluMem .xor
  | .xorA => .aluReg .xor .a
  | .orB => .aluReg .or .b
  | .orC => .aluReg .or .c
  | .orD => .aluReg .or .d
  | .orE => .aluReg .or .e
  | .orH => .aluReg .or .h
  | .orL => .aluReg .or .l
  | .orAtHl => .aluMem .or
  | .orA => .aluReg .or .a
  | .cpB => .aluReg .cp .b
  | .cpC => .aluReg .cp .c
  | .cpD => .aluReg .cp .d
  | .cpE => .aluReg .cp .e
  | .cpH => .aluReg .cp .h
  | .cpL => .aluReg .cp .l
  | .cpAtHl => .aluMem .cp
  | .cpA => .aluReg .cp .a
  | .retNz => .retCond .nz
  | .popBc => .pop .bc
  | .jpNzN16 n16 => .jpCond .nz n16
  | .jpN16 n16 => .jp n16
  | .callNzN16 n16 => .callCond .nz n16
  | .pushBc => .push .bc
  | .addN8 n8 => .aluImm .add n8
  | .rst00 => .rst 0
  | .retZ => .retCond .z
  | .ret => .ret
  | .jpZN16 n16 => .jpCond .z n16
  | .prefixCb ext => .prefixCb ext
  | .callZN16 n16 => .callCond .z n16
  | .callN16 n16 => .call n16
  | .adcN8 n8 => .aluImm .adc n8
  | .rst08 => .rst 1
  | .retNc => .retCond .nc
  | .popDe => .pop .de
  | .jpNcN16 n16 => .jpCond .nc n16
  | .illegalD3 => .illegal .opD3
  | .callNcN16 n16 => .callCond .nc n16
  | .pushDe => .push .de
  | .subN8 n8 => .aluImm .sub n8
  | .rst10 => .rst 2
  | .retC => .retCond .c
  | .reti => .reti
  | .jpCN16 n16 => .jpCond .c n16
  | .illegalDB => .illegal .opDB
  | .callCN16 n16 => .callCond .c n16
  | .illegalDD => .illegal .opDD
  | .sbcN8 n8 => .aluImm .sbc n8
  | .rst18 => .rst 3
  | .ldhAtN8A n8 => .storeHighImm n8
  | .popHl => .pop .hl
  | .ldhAtCA => .storeHighC
  | .illegalE3 => .illegal .opE3
  | .illegalE4 => .illegal .opE4
  | .pushHl => .push .hl
  | .andN8 n8 => .aluImm .and n8
  | .rst20 => .rst 4
  | .addSpE8 e8 => .addSp e8
  | .jpHl => .jpHl
  | .ldAtN16A n16 => .storeAbs n16
  | .illegalEB => .illegal .opEB
  | .illegalEC => .illegal .opEC
  | .illegalED => .illegal .opED
  | .xorN8 n8 => .aluImm .xor n8
  | .rst28 => .rst 5
  | .ldhAAtN8 n8 => .loadHighImm n8
  | .popAf => .pop .af
  | .ldhAAtC => .loadHighC
  | .di => .di
  | .illegalF4 => .illegal .opF4
  | .pushAf => .push .af
  | .orN8 n8 => .aluImm .or n8
  | .rst30 => .rst 6
  | .ldHlSpE8 e8 => .ldHlSp e8
  | .ldSpHl => .ldSpHl
  | .ldAAtN16 n16 => .loadAbs n16
  | .ei => .ei
  | .illegalFC => .illegal .opFC
  | .illegalFD => .illegal .opFD
  | .cpN8 n8 => .aluImm .cp n8
  | .rst38 => .rst 7
  | .rlcB => .rotReg .rlc .b
  | .rlcC => .rotReg .rlc .c
  | .rlcD => .rotReg .rlc .d
  | .rlcE => .rotReg .rlc .e
  | .rlcH => .rotReg .rlc .h
  | .rlcL => .rotReg .rlc .l
  | .rlcAtHl => .rotMem .rlc
  | .rlcA => .rotReg .rlc .a
  | .rrcB => .rotReg .rrc .b
  | .rrcC => .rotReg .rrc .c
  | .rrcD => .rotReg .rrc .d
  | .rrcE => .rotReg .rrc .e
  | .rrcH => .rotReg .rrc .h
  | .rrcL => .rotReg .rrc .l
  | .rrcAtHl => .rotMem .rrc
  | .rrcA => .rotReg .rrc .a
  | .rlB => .rotReg .rl .b
  | .rlC => .rotReg .rl .c
  | .rlD => .rotReg .rl .d
  | .rlE => .rotReg .rl .e
  | .rlH => .rotReg .rl .h
  | .rlL => .rotReg .rl .l
  | .rlAtHl => .rotMem .rl
  | .rlA => .rotReg .rl .a
  | .rrB => .rotReg .rr .b
  | .rrC => .rotReg .rr .c
  | .rrD => .rotReg .rr .d
  | .rrE => .rotReg .rr .e
  | .rrH => .rotReg .rr .h
  | .rrL => .rotReg .rr .l
  | .rrAtHl => .rotMem .rr
  | .rrA => .rotReg .rr .a
  | .slaB => .rotReg .sla .b
  | .slaC => .rotReg .sla .c
  | .slaD => .rotReg .sla .d
  | .slaE => .rotReg .sla .e
  | .slaH => .rotReg .sla .h
  | .slaL => .rotReg .sla .l
  | .slaAtHl => .rotMem .sla
  | .slaA => .rotReg .sla .a
  | .sraB => .rotReg .sra .b
  | .sraC => .rotReg .sra .c
  | .sraD => .rotReg .sra .d
  | .sraE => .rotReg .sra .e
  | .sraH => .rotReg .sra .h
  | .sraL => .rotReg .sra .l
  | .sraAtHl => .rotMem .sra
  | .sraA => .rotReg .sra .a
  | .swapB => .rotReg .swap .b
  | .swapC => .rotReg .swap .c
  | .swapD => .rotReg .swap .d
  | .swapE => .rotReg .swap .e
  | .swapH => .rotReg .swap .h
  | .swapL => .rotReg .swap .l
  | .swapAtHl => .rotMem .swap
  | .swapA => .rotReg .swap .a
  | .srlB => .rotReg .srl .b
  | .srlC => .rotReg .srl .c
  | .srlD => .rotReg .srl .d
  | .srlE => .rotReg .srl .e
  | .srlH => .rotReg .srl .h
  | .srlL => .rotReg .srl .l
  | .srlAtHl => .rotMem .srl
  | .srlA => .rotReg .srl .a
  | .bit0B => .bitReg 0 .b
  | .bit0C => .bitReg 0 .c
  | .bit0D => .bitReg 0 .d
  | .bit0E => .bitReg 0 .e
  | .bit0H => .bitReg 0 .h
  | .bit0L => .bitReg 0 .l
  | .bit0AtHl => .bitMem 0
  | .bit0A => .bitReg 0 .a
  | .bit1B => .bitReg 1 .b
  | .bit1C => .bitReg 1 .c
  | .bit1D => .bitReg 1 .d
  | .bit1E => .bitReg 1 .e
  | .bit1H => .bitReg 1 .h
  | .bit1L => .bitReg 1 .l
  | .bit1AtHl => .bitMem 1
  | .bit1A => .bitReg 1 .a
  | .bit2B => .bitReg 2 .b
  | .bit2C => .bitReg 2 .c
  | .bit2D => .bitReg 2 .d
  | .bit2E => .bitReg 2 .e
  | .bit2H => .bitReg 2 .h
  | .bit2L => .bitReg 2 .l
  | .bit2AtHl => .bitMem 2
  | .bit2A => .bitReg 2 .a
  | .bit3B => .bitReg 3 .b
  | .bit3C => .bitReg 3 .c
  | .bit3D => .bitReg 3 .d
  | .bit3E => .bitReg 3 .e
  | .bit3H => .bitReg 3 .h
  | .bit3L => .bitReg 3 .l
  | .bit3AtHl => .bitMem 3
  | .bit3A => .bitReg 3 .a
  | .bit4B => .bitReg 4 .b
  | .bit4C => .bitReg 4 .c
  | .bit4D => .bitReg 4 .d
  | .bit4E => .bitReg 4 .e
  | .bit4H => .bitReg 4 .h
  | .bit4L => .bitReg 4 .l
  | .bit4AtHl => .bitMem 4
  | .bit4A => .bitReg 4 .a
  | .bit5B => .bitReg 5 .b
  | .bit5C => .bitReg 5 .c
  | .bit5D => .bitReg 5 .d
  | .bit5E => .bitReg 5 .e
  | .bit5H => .bitReg 5 .h
  | .bit5L => .bitReg 5 .l
  | .bit5AtHl => .bitMem 5
  | .bit5A => .bitReg 5 .a
  | .bit6B => .bitReg 6 .b
  | .bit6C => .bitReg 6 .c
  | .bit6D => .bitReg 6 .d
  | .bit6E => .bitReg 6 .e
  | .bit6H => .bitReg 6 .h
  | .bit6L => .bitReg 6 .l
  | .bit6AtHl => .bitMem 6
  | .bit6A => .bitReg 6 .a
  | .bit7B => .bitReg 7 .b
  | .bit7C => .bitReg 7 .c
  | .bit7D => .bitReg 7 .d
  | .bit7E => .bitReg 7 .e
  | .bit7H => .bitReg 7 .h
  | .bit7L => .bitReg 7 .l
  | .bit7AtHl => .bitMem 7
  | .bit7A => .bitReg 7 .a
  | .res0B => .resReg 0 .b
  | .res0C => .resReg 0 .c
  | .res0D => .resReg 0 .d
  | .res0E => .resReg 0 .e
  | .res0H => .resReg 0 .h
  | .res0L => .resReg 0 .l
  | .res0AtHl => .resMem 0
  | .res0A => .resReg 0 .a
  | .res1B => .resReg 1 .b
  | .res1C => .resReg 1 .c
  | .res1D => .resReg 1 .d
  | .res1E => .resReg 1 .e
  | .res1H => .resReg 1 .h
  | .res1L => .resReg 1 .l
  | .res1AtHl => .resMem 1
  | .res1A => .resReg 1 .a
  | .res2B => .resReg 2 .b
  | .res2C => .resReg 2 .c
  | .res2D => .resReg 2 .d
  | .res2E => .resReg 2 .e
  | .res2H => .resReg 2 .h
  | .res2L => .resReg 2 .l
  | .res2AtHl => .resMem 2
  | .res2A => .resReg 2 .a
  | .res3B => .resReg 3 .b
  | .res3C => .resReg 3 .c
  | .res3D => .resReg 3 .d
  | .res3E => .resReg 3 .e
  | .res3H => .resReg 3 .h
  | .res3L => .resReg 3 .l
  | .res3AtHl => .resMem 3
  | .res3A => .resReg 3 .a
  | .res4B => .resReg 4 .b
  | .res4C => .resReg 4 .c
  | .res4D => .resReg 4 .d
  | .res4E => .resReg 4 .e
  | .res4H => .resReg 4 .h
  | .res4L => .resReg 4 .l
  | .res4AtHl => .resMem 4
  | .res4A => .resReg 4 .a
  | .res5B => .resReg 5 .b
  | .res5C => .resReg 5 .c
  | .res5D => .resReg 5 .d
  | .res5E => .resReg 5 .e
  | .res5H => .resReg 5 .h
  | .res5L => .resReg 5 .l
  | .res5AtHl => .resMem 5
  | .res5A => .resReg 5 .a
  | .res6B => .resReg 6 .b
  | .res6C => .resReg 6 .c
  | .res6D => .resReg 6 .d
  | .res6E => .resReg 6 .e
  | .res6H => .resReg 6 .h
  | .res6L => .resReg 6 .l
  | .res6AtHl => .resMem 6
  | .res6A => .resReg 6 .a
  | .res7B => .resReg 7 .b
  | .res7C => .resReg 7 .c
  | .res7D => .resReg 7 .d
  | .res7E => .resReg 7 .e
  | .res7H => .resReg 7 .h
  | .res7L => .resReg 7 .l
  | .res7AtHl => .resMem 7
  | .res7A => .resReg 7 .a
  | .set0B => .setReg 0 .b
  | .set0C => .setReg 0 .c
  | .set0D => .setReg 0 .d
  | .set0E => .setReg 0 .e
  | .set0H => .setReg 0 .h
  | .set0L => .setReg 0 .l
  | .set0AtHl => .setMem 0
  | .set0A => .setReg 0 .a
  | .set1B => .setReg 1 .b
  | .set1C => .setReg 1 .c
  | .set1D => .setReg 1 .d
  | .set1E => .setReg 1 .e
  | .set1H => .setReg 1 .h
  | .set1L => .setReg 1 .l
  | .set1AtHl => .setMem 1
  | .set1A => .setReg 1 .a
  | .set2B => .setReg 2 .b
  | .set2C => .setReg 2 .c
  | .set2D => .setReg 2 .d
  | .set2E => .setReg 2 .e
  | .set2H => .setReg 2 .h
  | .set2L => .setReg 2 .l
  | .set2AtHl => .setMem 2
  | .set2A => .setReg 2 .a
  | .set3B => .setReg 3 .b
  | .set3C => .setReg 3 .c
  | .set3D => .setReg 3 .d
  | .set3E => .setReg 3 .e
  | .set3H => .setReg 3 .h
  | .set3L => .setReg 3 .l
  | .set3AtHl => .setMem 3
  | .set3A => .setReg 3 .a
  | .set4B => .setReg 4 .b
  | .set4C => .setReg 4 .c
  | .set4D => .setReg 4 .d
  | .set4E => .setReg 4 .e
  | .set4H => .setReg 4 .h
  | .set4L => .setReg 4 .l
  | .set4AtHl => .setMem 4
  | .set4A => .setReg 4 .a
  | .set5B => .setReg 5 .b
  | .set5C => .setReg 5 .c
  | .set5D => .setReg 5 .d
  | .set5E => .setReg 5 .e
  | .set5H => .setReg 5 .h
  | .set5L => .setReg 5 .l
  | .set5AtHl => .setMem 5
  | .set5A => .setReg 5 .a
  | .set6B => .setReg 6 .b
  | .set6C => .setReg 6 .c
  | .set6D => .setReg 6 .d
  | .set6E => .setReg 6 .e
  | .set6H => .setReg 6 .h
  | .set6L => .setReg 6 .l
  | .set6AtHl => .setMem 6
  | .set6A => .setReg 6 .a
  | .set7B => .setReg 7 .b
  | .set7C => .setReg 7 .c
  | .set7D => .setReg 7 .d
  | .set7E => .setReg 7 .e
  | .set7H => .setReg 7 .h
  | .set7L => .setReg 7 .l
  | .set7AtHl => .setMem 7
  | .set7A => .setReg 7 .a

end Sys2Proof.Machine
end

