-- ==== Sys2Proof/Machine/View.lean ====
section
/-! DEFINITION. The bus as functions of the state (which bytes can be reached, what they read as, the state after a
read or a store), the operands of an instruction form, and what each form may touch. `exec` does not use these: they
are the words in which statements are written (spec 20_memory.md R55 to R67; 10_state.md R24, R30; 30_encoding.md R95
to R102). -/

namespace Sys2Proof.Machine

/-! ### One byte and one word of the bus -/

/-- An access to `a` is not fatal: `a` lies in an owned region, or its region has a handler (R60, R61). -/
def State.accessible (s : State) (a : Word) : Bool :=
  match s.target a with
  | .unwired _ => false
  | _ => true

/-- What `read8(a)` returns where it is not fatal (R64). -/
def State.byteAt (s : State) (a : Word) : Byte :=
  match s.target a with
  | .cell p _ => s.mem.read p
  | .device g off => (Config.extRead s.extCalls g off).getD Config.unmappedReadValue
  | .unmapped | .unwired _ => Config.unmappedReadValue

/-- The state after `read8(a)`: `s`, but for the call a `device` handler has seen (R61). -/
def State.noteRead (s : State) (a : Word) : State :=
  match s.target a with
  | .device g off => { s with extCalls := .read g off :: s.extCalls }
  | _ => s

/-- The state after `write8(a, v)` where it is not fatal (R59, R61, R65). -/
def State.store (s : State) (a : Word) (v : Byte) : State :=
  match s.target a with
  | .cell p .writable => { s with mem := s.mem.write p v }
  | .device g off => { s with extCalls := .write g off v :: s.extCalls }
  | _ => s

/-- `EXT_HANDLER[g]` (R5, R61); none for a region the bus owns. -/
def State.handler (s : State) : Region → Option Handler
  | .unusable => some s.handlers.unusable
  | .io => some s.handlers.io
  | .hram => some s.handlers.hram
  | .ie => some s.handlers.ie
  | _ => none

/-- The buffer of the standard handler of an unwired region (R61, D29). -/
def handlerBuffer : Region → Buffer
  | .unusable => .unusable
  | .io => .io
  | .hram => .hram
  | _ => .ie

/-- The fatal condition of an access to an address whose region has no handler (R60, R303). -/
def accessFault (a : Word) (k : Access) : Fault := .unwiredRegion (resolve a).region a k

/-- Both bytes of a word can be reached. -/
def State.wordReady (s : State) (a : Word) : Bool := s.accessible a && s.accessible (a + 1#16)

/-- The word at `a`, low byte at the lower address (R66, R68). -/
def State.wordAt (s : State) (a : Word) : Word := joinBytes ((s.noteRead a).byteAt (a + 1#16)) (s.byteAt a)

/-- The state after `read16LE(a)`. -/
def State.noteWord (s : State) (a : Word) : State := (s.noteRead a).noteRead (a + 1#16)

/-- The state after `write16LE(a, w)`: the low byte to `a` first, then the high byte to `a + 1` (R67). -/
def State.storeWord (s : State) (a : Word) (w : Word) : State := (s.store a (loByte w)).store (a + 1#16) (hiByte w)

/-- The fatal condition of a word access that is not ready: that of the first byte which fails (R307). -/
def State.wordFault (s : State) (a : Word) (k : Access) : Fault :=
  if s.accessible a then accessFault (a + 1#16) k else accessFault a k

/-- The state after a push of `w`: SP moves down by two, the word goes to the new SP (41_load16.md). -/
def State.pushed (s : State) (w : Word) : State := { s.storeWord (s.sp - 2#16) w with sp := s.sp - 2#16 }

/-- The state after a pop: the word at SP was read, SP moves up by two. -/
def State.popped (s : State) : State := { s.noteWord s.sp with sp := s.sp + 2#16 }

/-- The `n` bytes that reads of `a`, `a + 1`, … give in this order. -/
def State.bytesFrom (s : State) (a : Word) : Nat → List Byte
  | 0 => []
  | n + 1 => s.byteAt a :: (s.noteRead a).bytesFrom (a + 1#16) n

/-- The state after those reads. -/
def State.afterBytes (s : State) (a : Word) : Nat → State
  | 0 => s
  | n + 1 => (s.noteRead a).afterBytes (a + 1#16) n

/-- All of those bytes can be reached. -/
def State.bytesReady (s : State) (a : Word) : Nat → Bool
  | 0 => true
  | n + 1 => s.accessible a && s.bytesReady (a + 1#16) n

/-! ### Codes of the operand tables (R95, R96, R98) -/

/-- The `r8` code. -/
def Reg8.code : Reg8 → Nat
  | .b => 0
  | .c => 1
  | .d => 2
  | .e => 3
  | .h => 4
  | .l => 5
  | .a => 7

/-- The `rp` code. -/
def Pair.code : Pair → Nat
  | .bc => 0
  | .de => 1
  | .hl => 2
  | .sp => 3

/-- The `rp2` code. -/
def StackPair.code : StackPair → Nat
  | .bc => 0
  | .de => 1
  | .hl => 2
  | .af => 3

/-- The `cc` code. -/
def Cond.code : Cond → Nat
  | .nz => 0
  | .z => 1
  | .nc => 2
  | .c => 3

/-- The `alu` code. -/
def AluOp.code : AluOp → Nat
  | .add => 0
  | .adc => 1
  | .sub => 2
  | .sbc => 3
  | .and => 4
  | .xor => 5
  | .or => 6
  | .cp => 7

/-- The `rot` code. -/
def RotOp.code : RotOp → Nat
  | .rlc => 0
  | .rrc => 1
  | .rl => 2
  | .rr => 3
  | .sla => 4
  | .sra => 5
  | .swap => 6
  | .srl => 7

/-- The opcode byte of an illegal opcode (R105). -/
def IllegalOp.byte : IllegalOp → Byte
  | .opD3 => 0xD3#8
  | .opDB => 0xDB#8
  | .opDD => 0xDD#8
  | .opE3 => 0xE3#8
  | .opE4 => 0xE4#8
  | .opEB => 0xEB#8
  | .opEC => 0xEC#8
  | .opED => 0xED#8
  | .opF4 => 0xF4#8
  | .opFC => 0xFC#8
  | .opFD => 0xFD#8

/-- The opcode byte with fields x, y, z: `x × 64 + y × 8 + z` (R92, R104). -/
def opcode (x y z : Nat) : Byte := BitVec.ofNat 8 (x * 64 + y * 8 + z)

/-! ### Operands of the 8-bit forms -/

/-- The source operand of `alu[y]`: a register, the byte at HL, or an immediate (R166 to R189). -/
inductive Operand where
  | reg (r : Reg8)
  | mem
  | imm (n8 : Byte)
  deriving DecidableEq, Repr

/-- The form of `alu[y]` on an operand. -/
def aluForm (op : AluOp) : Operand → Form
  | .reg r => .aluReg op r
  | .mem => .aluMem op
  | .imm n8 => .aluImm op n8

/-- Its bytes: `0b10 yyy zzz`, code 6 for the byte at HL, or `0b11 yyy 110` and the immediate. -/
def aluBytes (op : AluOp) : Operand → List Byte
  | .reg r => [opcode 2 op.code r.code]
  | .mem => [opcode 2 op.code 6]
  | .imm n8 => [opcode 3 op.code 6, n8]

/-- Its cost: 1, 2 and 2 M-cycles. -/
def aluCycles : Operand → Nat
  | .reg _ => 1
  | .mem => 2
  | .imm _ => 2

/-- The operand can be read. -/
def State.operandReady (s : State) : Operand → Bool
  | .mem => s.accessible s.hl
  | _ => true

/-- The operand's value v. -/
def State.operand (s : State) : Operand → Byte
  | .reg r => s.reg r
  | .mem => s.byteAt s.hl
  | .imm n8 => n8

/-- The state after the operand is read. -/
def State.afterOperand (s : State) : Operand → State
  | .mem => s.noteRead s.hl
  | _ => s

/-- What the one-operand forms (`INC`, `DEC`, rotates, `BIT`, `RES`, `SET`) work on: a register or the byte at HL. -/
inductive Place where
  | reg (r : Reg8)
  | mem
  deriving DecidableEq, Repr

/-- The `r8` code of a place (R95). -/
def Place.code : Place → Nat
  | .reg r => r.code
  | .mem => 6

/-- The place can be reached. -/
def State.placeReady (s : State) : Place → Bool
  | .reg _ => true
  | .mem => s.accessible s.hl

/-- The value in the place. -/
def State.placeValue (s : State) : Place → Byte
  | .reg r => s.reg r
  | .mem => s.byteAt s.hl

/-- The state after the place is only read. -/
def State.afterPlace (s : State) : Place → State
  | .reg _ => s
  | .mem => s.noteRead s.hl

/-- The state after the place is read and then `v` is put there. -/
def State.putPlace (s : State) (v : Byte) : Place → State
  | .reg r => s.setReg r v
  | .mem => (s.noteRead s.hl).store s.hl v

/-- A cost that depends on the place: that of the register form, that of the `(HL)` form. -/
def Place.cost (onReg onMem : Nat) : Place → Nat
  | .reg _ => onReg
  | .mem => onMem

/-- `INC` of a place. -/
def incForm : Place → Form
  | .reg r => .incReg r
  | .mem => .incMem

/-- `DEC` of a place. -/
def decForm : Place → Form
  | .reg r => .decReg r
  | .mem => .decMem

/-- `rot[y]` of a place. -/
def rotForm (op : RotOp) : Place → Form
  | .reg r => .rotReg op r
  | .mem => .rotMem op

/-- `BIT b` of a place. -/
def bitForm (b : Fin 8) : Place → Form
  | .reg r => .bitReg b r
  | .mem => .bitMem b

/-- `RES b` of a place. -/
def resForm (b : Fin 8) : Place → Form
  | .reg r => .resReg b r
  | .mem => .resMem b

/-- `SET b` of a place. -/
def setForm (b : Fin 8) : Place → Form
  | .reg r => .setReg b r
  | .mem => .setMem b

/-- The pointer of `LD A,(BC)`, `LD A,(DE)`, `LD (BC),A`, `LD (DE),A`. -/
def State.pointer (s : State) : PtrPair → Word
  | .bc => s.bc
  | .de => s.de

/-- HL after `(HL+)` or `(HL-)`. -/
def State.hlStepped (s : State) : HlStep → Word
  | .inc => s.hl + 1#16
  | .dec => s.hl - 1#16

/-! ### The fields of an opcode select the form (R99 to R104) -/

/-- The place of an `r8` code. -/
def placeOfCode (k : Nat) : Place :=
  match reg8OfCode k with
  | some r => .reg r
  | none => .mem

/-- Table `rp` by its code. -/
def pairOfCode : Nat → Pair
  | 0 => .bc
  | 1 => .de
  | 2 => .hl
  | _ => .sp

/-- Table `rp2` by its code. -/
def stackPairOfCode : Nat → StackPair
  | 0 => .bc
  | 1 => .de
  | 2 => .hl
  | _ => .af

/-- Table `cc` by its code. -/
def condOfCode : Nat → Cond
  | 0 => .nz
  | 1 => .z
  | 2 => .nc
  | _ => .c

/-- Table `alu` by its code. -/
def aluOfCode : Nat → AluOp
  | 0 => .add
  | 1 => .adc
  | 2 => .sub
  | 3 => .sbc
  | 4 => .and
  | 5 => .xor
  | 6 => .or
  | _ => .cp

/-- x = 0 (R99), with the operand byte v and the operand word w that follow the opcode. -/
def formX0 (y z p q : Nat) (v : Byte) (w : Word) : Form :=
  match z with
  | 0 =>
    if y = 0 then .nop else if y = 1 then .ldMemSp w else if y = 2 then .stop v else if y = 3 then .jr v
    else .jrCond (condOfCode (y - 4)) v
  | 1 => if q = 0 then .ldPairImm (pairOfCode p) w else .addHl (pairOfCode p)
  | 2 =>
    if q = 0 then
      (if p = 0 then .storeA .bc else if p = 1 then .storeA .de else if p = 2 then .storeAStep .inc
       else .storeAStep .dec)
    else
      (if p = 0 then .loadA .bc else if p = 1 then .loadA .de else if p = 2 then .loadAStep .inc
       else .loadAStep .dec)
  | 3 => if q = 0 then .incPair (pairOfCode p) else .decPair (pairOfCode p)
  | 4 => incForm (placeOfCode y)
  | 5 => decForm (placeOfCode y)
  | 6 =>
    match placeOfCode y with
    | .reg r => .ldRegImm r v
    | .mem => .ldMemImm v
  | _ =>
    if y = 0 then .rotA .rlc else if y = 1 then .rotA .rrc else if y = 2 then .rotA .rl else if y = 3 then .rotA .rr
    else if y = 4 then .daa else if y = 5 then .cpl else if y = 6 then .scf else .ccf

/-- x = 1 (R100). -/
def formX1 (y z : Nat) : Form :=
  match placeOfCode y, placeOfCode z with
  | .reg dst, .reg r => .ldRegReg dst r
  | .reg dst, .mem => .ldRegMem dst
  | .mem, .reg r => .ldMemReg r
  | .mem, .mem => .halt

/-- x = 2 (R101). -/
def formX2 (y z : Nat) : Form :=
  match placeOfCode z with
  | .reg r => .aluReg (aluOfCode y) r
  | .mem => .aluMem (aluOfCode y)

/-- x = 3 (R102), the prefix 0xCB left out. -/
def formX3 (y z p q : Nat) (v : Byte) (w : Word) : Form :=
  match z with
  | 0 =>
    if y < 4 then .retCond (condOfCode y) else if y = 4 then .storeHighImm v else if y = 5 then .addSp v
    else if y = 6 then .loadHighImm v else .ldHlSp v
  | 1 =>
    if q = 0 then .pop (stackPairOfCode p)
    else if p = 0 then .ret else if p = 1 then .reti else if p = 2 then .jpHl else .ldSpHl
  | 2 =>
    if y < 4 then .jpCond (condOfCode y) w else if y = 4 then .storeHighC else if y = 5 then .storeAbs w
    else if y = 6 then .loadHighC else .loadAbs w
  | 3 =>
    if y = 0 then .jp w else if y = 2 then .illegal .opD3 else if y = 3 then .illegal .opDB
    else if y = 4 then .illegal .opE3 else if y = 5 then .illegal .opEB else if y = 6 then .di else .ei
  | 4 =>
    if y < 4 then .callCond (condOfCode y) w else if y = 4 then .illegal .opE4 else if y = 5 then .illegal .opEC
    else if y = 6 then .illegal .opF4 else .illegal .opFC
  | 5 =>
    if q = 0 then .push (stackPairOfCode p)
    else if p = 0 then .call w else if p = 1 then .illegal .opDD else if p = 2 then .illegal .opED
    else .illegal .opFD
  | 6 => .aluImm (aluOfCode y) v
  | _ => .rst (Fin.ofNat 8 y)

/-- The form that the fields of a primary opcode select (R99 to R102), v and w being the operand byte and word. -/
def primaryForm (op v : Byte) (w : Word) : Form :=
  match fieldX op with
  | 0 => formX0 (fieldY op) (fieldZ op) (fieldP op) (fieldQ op) v w
  | 1 => formX1 (fieldY op) (fieldZ op)
  | 2 => formX2 (fieldY op) (fieldZ op)
  | _ => formX3 (fieldY op) (fieldZ op) (fieldP op) (fieldQ op) v w

/-- Table `rot` by its code, written apart from the meaning of the prefix row. -/
def rotationOfCode : Nat → RotOp
  | 0 => .rlc
  | 1 => .rrc
  | 2 => .rl
  | 3 => .rr
  | 4 => .sla
  | 5 => .sra
  | 6 => .swap
  | _ => .srl

/-- The form that the fields of an extended opcode select (R104). -/
def extendedForm (ext : Byte) : Form :=
  match fieldX ext with
  | 0 => rotForm (rotationOfCode (fieldY ext)) (placeOfCode (fieldZ ext))
  | 1 => bitForm (Fin.ofNat 8 (fieldY ext)) (placeOfCode (fieldZ ext))
  | 2 => resForm (Fin.ofNat 8 (fieldY ext)) (placeOfCode (fieldZ ext))
  | _ => setForm (Fin.ofNat 8 (fieldY ext)) (placeOfCode (fieldZ ext))

/-- The length of an instruction, by its primary opcode alone (R93). -/
def lengthOf (op : Byte) : Nat :=
  if op ∈ [0x01#8, 0x11#8, 0x21#8, 0x31#8, 0x08#8, 0xC2#8, 0xCA#8, 0xD2#8, 0xDA#8, 0xC3#8, 0xC4#8, 0xCC#8, 0xD4#8,
      0xDC#8, 0xCD#8, 0xEA#8, 0xFA#8] then 3
  else if op ∈ [0x06#8, 0x0E#8, 0x16#8, 0x1E#8, 0x26#8, 0x2E#8, 0x36#8, 0x3E#8, 0x10#8, 0x18#8, 0x20#8, 0x28#8,
      0x30#8, 0x38#8, 0xC6#8, 0xCE#8, 0xD6#8, 0xDE#8, 0xE6#8, 0xEE#8, 0xF6#8, 0xFE#8, 0xE0#8, 0xF0#8, 0xE8#8, 0xF8#8,
      0xCB#8] then 2
  else 1

/-! ### What a form touches -/

/-- The form whose effect an instruction has: that of the extended instruction for the prefix row (R285). -/
def effectForm (i : Instr) : Form :=
  match formOf i with
  | .prefixCb ext => formOf (extendedInstr ext)
  | f => f

/-- A push: the two byte writes, in order. -/
def pushAccesses (s : State) : List (Word × Access) := [(s.sp - 2#16, .write), (s.sp - 2#16 + 1#16, .write)]

/-- A pop: the two byte reads, in order. -/
def popAccesses (s : State) : List (Word × Access) := [(s.sp, .read), (s.sp + 1#16, .read)]

/-- The data accesses of a form's pseudocode, in its order (R74, R307 item 6); pc and the operands are fetched. -/
def Form.accesses (s : State) : Form → List (Word × Access)
  | .ldRegMem _ => [(s.hl, .read)]
  | .ldMemReg _ => [(s.hl, .write)]
  | .ldMemImm _ => [(s.hl, .write)]
  | .loadA p => [(s.pointer p, .read)]
  | .storeA p => [(s.pointer p, .write)]
  | .loadAbs n16 => [(n16, .read)]
  | .storeAbs n16 => [(n16, .write)]
  | .loadHighImm n8 => [(highPage n8, .read)]
  | .storeHighImm n8 => [(highPage n8, .write)]
  | .loadHighC => [(highPage s.c, .read)]
  | .storeHighC => [(highPage s.c, .write)]
  | .storeAStep _ => [(s.hl, .write)]
  | .loadAStep _ => [(s.hl, .read)]
  | .ldMemSp n16 => [(n16, .write), (n16 + 1#16, .write)]
  | .push _ => pushAccesses s
  | .pop _ => popAccesses s
  | .aluMem _ => [(s.hl, .read)]
  | .incMem => [(s.hl, .read), (s.hl, .write)]
  | .decMem => [(s.hl, .read), (s.hl, .write)]
  | .rotMem _ => [(s.hl, .read), (s.hl, .write)]
  | .bitMem _ => [(s.hl, .read)]
  | .resMem _ => [(s.hl, .read), (s.hl, .write)]
  | .setMem _ => [(s.hl, .read), (s.hl, .write)]
  | .call _ => pushAccesses s
  | .callCond cc _ => if s.cond cc then pushAccesses s else []
  | .rst _ => pushAccesses s
  | .ret => popAccesses s
  | .retCond cc => if s.cond cc then popAccesses s else []
  | .reti => popAccesses s
  | .ldRegReg _ _ | .ldRegImm _ _ | .ldPairImm _ _ | .ldSpHl | .ldHlSp _ | .aluReg _ _ | .aluImm _ _ | .incReg _
  | .decReg _ | .daa | .cpl | .scf | .ccf | .addHl _ | .incPair _ | .decPair _ | .addSp _ | .rotA _ | .rotReg _ _
  | .bitReg _ _ | .resReg _ _ | .setReg _ _ | .jp _ | .jpCond _ _ | .jpHl | .jr _ | .jrCond _ _ | .nop | .stop _
  | .halt | .di | .ei | .prefixCb _ | .illegal _ => []

/-- The addresses a form stores to. -/
def Form.stores (s : State) (f : Form) : List Word :=
  (f.accesses s).filterMap fun x => if x.2 = .write then some x.1 else none

/-- A register is half of a pair. -/
def Pair.has : Pair → Reg8 → Bool
  | .bc, r => r == .b || r == .c
  | .de, r => r == .d || r == .e
  | .hl, r => r == .h || r == .l
  | .sp, _ => false

/-- A register is half of a pair of `PUSH` and `POP`. -/
def StackPair.has : StackPair → Reg8 → Bool
  | .bc, r => r == .b || r == .c
  | .de, r => r == .d || r == .e
  | .hl, r => r == .h || r == .l
  | .af, r => r == .a

/-- The 8-bit registers a form writes (R24). -/
def Form.writesReg : Form → Reg8 → Bool
  | .ldRegReg dst _, r => r == dst
  | .ldRegImm dst _, r => r == dst
  | .ldRegMem dst, r => r == dst
  | .loadA _, r => r == .a
  | .loadAbs _, r => r == .a
  | .loadHighImm _, r => r == .a
  | .loadHighC, r => r == .a
  | .storeAStep _, r => r == .h || r == .l
  | .loadAStep _, r => r == .a || r == .h || r == .l
  | .ldPairImm p _, r => p.has r
  | .ldHlSp _, r => r == .h || r == .l
  | .pop p, r => p.has r
  | .aluReg op _, r => op != .cp && r == .a
  | .aluMem op, r => op != .cp && r == .a
  | .aluImm op _, r => op != .cp && r == .a
  | .incReg dst, r => r == dst
  | .decReg dst, r => r == dst
  | .daa, r => r == .a
  | .cpl, r => r == .a
  | .addHl _, r => r == .h || r == .l
  | .incPair p, r => p.has r
  | .decPair p, r => p.has r
  | .rotA _, r => r == .a
  | .rotReg _ dst, r => r == dst
  | .resReg _ dst, r => r == dst
  | .setReg _ dst, r => r == dst
  | .ldMemReg _, _ | .ldMemImm _, _ | .storeA _, _ | .storeAbs _, _ | .storeHighImm _, _ | .storeHighC, _
  | .ldMemSp _, _ | .ldSpHl, _ | .push _, _ | .incMem, _ | .decMem, _ | .scf, _ | .ccf, _ | .addSp _, _
  | .rotMem _, _ | .bitReg _ _, _ | .bitMem _, _ | .resMem _, _ | .setMem _, _ | .jp _, _ | .jpCond _ _, _
  | .jpHl, _ | .jr _, _ | .jrCond _ _, _ | .call _, _ | .callCond _ _, _ | .ret, _ | .retCond _, _ | .reti, _
  | .rst _, _ | .nop, _ | .stop _, _ | .halt, _ | .di, _ | .ei, _ | .prefixCb _, _ | .illegal _, _ => false

/-- The forms that may write SP (R24). -/
def Form.writesSp : Form → Bool
  | .ldPairImm p _ => p == .sp
  | .incPair p => p == .sp
  | .decPair p => p == .sp
  | .ldSpHl | .addSp _ | .push _ | .pop _ | .call _ | .callCond _ _ | .rst _ | .ret | .retCond _ | .reti => true
  | _ => false

/-- The control transfers: the forms whose own effect writes pc (R26). -/
def Form.transfers : Form → Bool
  | .jp _ | .jpCond _ _ | .jpHl | .jr _ | .jrCond _ _ | .call _ | .callCond _ _ | .rst _ | .ret | .retCond _
  | .reti => true
  | _ => false

/-- The four flags. -/
inductive Flag where
  | z | n | h | c
  deriving DecidableEq, Repr

/-- The value of a flag in F (R28). -/
def flag (f : Byte) : Flag → Bool
  | .z => flagZ f
  | .n => flagN f
  | .h => flagH f
  | .c => flagC f

/-- The complete list of R30: which form writes which flag. -/
def Form.writesFlag : Form → Flag → Bool
  | .aluReg _ _, _ | .aluMem _, _ | .aluImm _ _, _ => true
  | .incReg _, k | .incMem, k | .decReg _, k | .decMem, k => k != .c
  | .daa, k => k != .n
  | .cpl, k => k == .n || k == .h
  | .scf, k | .ccf, k => k != .z
  | .addHl _, k => k != .z
  | .addSp _, _ | .ldHlSp _, _ => true
  | .rotA _, _ | .rotReg _ _, _ | .rotMem _, _ => true
  | .bitReg _ _, k | .bitMem _, k => k != .c
  | .pop .af, _ => true
  | _, _ => false

/-- F with one flag set to a value, the other three as they were (R29). -/
def withFlag (f : Byte) (k : Flag) (v : Bool) : Byte :=
  match k with
  | .z => setFlags f (some v) none none none
  | .n => setFlags f none (some v) none none
  | .h => setFlags f none none (some v) none
  | .c => setFlags f none none none (some v)

/-- The four flags of F have these values and bits 3:0 of F are zero. -/
def flagsAre (f : Byte) (z n h c : Bool) : Prop :=
  flagZ f = z ∧ flagN f = n ∧ flagH f = h ∧ flagC f = c ∧ f.toNat % 16 = 0

end Sys2Proof.Machine
end

