-- ==== Sys2Proof/Safety.lean ====
section
/-! DEFINITION. The invariant of a legal state, the numbers of the fatal conditions, and a run (spec 10_state.md R28,
R33, R40; 60_exceptions.md R301, R310; 70_reset_and_hazards.md R349). -/

namespace Sys2Proof.Machine

/-- A legal state: memory canonical and within its buffers, F bits 3:0 zero (R28), the bank selectors in their legal
ranges (R33), at least two image banks (R5), and no interrupt state outside the extension (R40). -/
structure State.Inv (s : State) : Prop where
  memory : s.mem.wf s.romBanks = true
  flags : s.f.toNat % 16 = 0
  banks : 2 ≤ s.romBanks
  romSlot : 1 ≤ s.romSlot1 ∧ s.romSlot1 < s.romBanks
  wramSlot : 1 ≤ s.wramSlot1.val
  base : s.interruptExt = false → s.ime = false ∧ s.halted = false ∧ s.eiPending = false

/-- The `Code` column of R301. -/
def Fault.code : Fault → Nat
  | .unwiredRegion _ _ _ => 2
  | .invalidOpcode _ _ => 3
  | .unimplementedInstruction _ _ => 4

/-- No handler of the state is a `device`: every byte of the machine is in State. -/
def State.noDevice (s : State) : Bool :=
  s.handlers.unusable != .device && s.handlers.io != .device && s.handlers.hram != .device && s.handlers.ie != .device

/-! ### The shapes that statements about single instructions share -/

/-- `i` loads the byte at `a` into `dst` for `n` cycles; where the byte cannot be reached it is fatal. -/
def loadsByte (i : Instr) (s : State) (dst : Reg8) (a : Word) (n : Nat) : Prop :=
  (s.accessible a = true → exec i s = .next { (s.noteRead a).setReg dst (s.byteAt a) with cycles := n }) ∧
  (s.accessible a = false → exec i s = .fault (accessFault a .read))

/-- `i` stores `v` at `a` for `n` cycles; where the byte cannot be reached it is fatal. -/
def storesByte (i : Instr) (s : State) (a : Word) (v : Byte) (n : Nat) : Prop :=
  (s.accessible a = true → exec i s = .next { s.store a v with cycles := n }) ∧
  (s.accessible a = false → exec i s = .fault (accessFault a .write))

/-- `i` pushes pc and goes to `target` for `n` cycles; a stack byte that cannot be reached is fatal. -/
def callsTo (i : Instr) (s : State) (target : Word) (n : Nat) : Prop :=
  (s.wordReady (s.sp - 2#16) = true → exec i s = .next { s.pushed s.pc with pc := target, cycles := n }) ∧
  (s.wordReady (s.sp - 2#16) = false → exec i s = .fault (s.wordFault (s.sp - 2#16) .write))

/-- How a run ends (R349). `refused` cannot arise: no arm of `exec` refuses. -/
inductive RunResult where
  | ran (s : State) (total : Nat)
  | stopped (k : Fault) (total : Nat)
  | refused (r : Refusal)
  deriving DecidableEq, Repr

/-- `run` with the cycles spent before it. -/
def runFrom (total : Nat) (s : State) : Nat → RunResult
  | 0 => .ran s total
  | n + 1 =>
    match step s with
    | .next t => runFrom (total + t.cycles) t n
    | .fault k => .stopped k total
    | .refused r => .refused r

/-- `run(state, n)` (R349): n steps, or up to the first fatal condition, with the sum of the cycles. -/
def run (s : State) (n : Nat) : RunResult := runFrom 0 s n

end Sys2Proof.Machine
end

