-- ==== Sys2Proof/Certificates/Slice0/Obligations.lean ====
section
/-! DEFINITION. The statements for the provers. Those about an instruction name it by its form (Machine/Forms.lean) and
give its bytes as well; `exec` receives the state with pc already at the following instruction (spec 00_scope.md R11). -/

open Sys2Proof Sys2Proof.Machine

/-! ### Encoding -/

/-- Decoding the bytes of a well-formed instruction gives it back, whatever follows (30_encoding.md R90 to R106). -/
def Obligations.DecodeInvertsEncode : Prop :=
  ∀ (i : Instr) (rest : List Byte), i.wf = true → decode (encode i ++ rest) = .ok (i, rest)

/-- Bytes that decode are the encoding of what they decode to: each byte sequence has one meaning (R90, R109). -/
def Obligations.EncodeInvertsDecode : Prop :=
  ∀ (bs rest : List Byte) (i : Instr), decode bs = .ok (i, rest) → bs = encode i ++ rest ∧ i.wf = true

/-- R93: the length is a function of the primary opcode alone, by the summary of R93, and every opcode decodes. -/
def Obligations.LengthByPrimaryOpcode : Prop :=
  ∀ (op b1 b2 : Byte) (rest : List Byte), ∃ i : Instr,
    decode (op :: b1 :: b2 :: rest) = .ok (i, (op :: b1 :: b2 :: rest).drop (lengthOf op)) ∧
    (encode i).length = lengthOf op

/-- R99 to R102: the fields x, y, z, p, q of a primary opcode select the instruction and its operands. -/
def Obligations.PrimaryFieldsSelectForm : Prop :=
  ∀ (op b1 b2 : Byte) (rest : List Byte), op ≠ 0xCB#8 → ∃ (i : Instr) (r : List Byte),
    decode (op :: b1 :: b2 :: rest) = .ok (i, r) ∧ formOf i = primaryForm op b1 (joinBytes b2 b1)

/-- R104, R106: the extended opcode is decoded by the same fields and has no gaps; a second 0xCB is no prefix. -/
def Obligations.ExtendedFieldsSelectForm : Prop :=
  (∀ (ext : Byte) (rest : List Byte), decode (0xCB#8 :: ext :: rest) = .ok (extendedInstr ext, rest) ∧
    formOf (extendedInstr ext) = extendedForm ext) ∧
  extendedInstr 0xCB#8 = .set1E

/-- Words written out bit by bit from the encodings of the rules (R120, R121, R150, R166, R191, R210, R154, R262, R265,
R271, R238, R250, R105). The numbering of their bits, the prefix of an extended row in the high half and every other
first byte in bits 7:0, is the model's reading of R109 (log entry 9, DEDUCED). -/
def Obligations.WordsDecode : Prop :=
  decodeTableWord 8 0b01000001 = some .ldBC ∧
  decodeTableWord 8 0b00111110 = some (.ldAN8 0x00#8) ∧
  decodeTableWord 24 0b000100100011010000000001 = some (.ldBcN16 0x1234#16) ∧
  decodeTableWord 8 0b10000111 = some .addA ∧
  decodeTableWord 8 0b00110100 = some .incAtHl ∧
  decodeTableWord 8 0b00101001 = some .addHlHl ∧
  decodeTableWord 8 0b11110101 = some .pushAf ∧
  decodeTableWord 24 0b100000000000000011000010 = some (.jpNzN16 0x8000#16) ∧
  decodeTableWord 16 0b1111101100100000 = some (.jrNzE8 0xFB#8) ∧
  decodeTableWord 8 0b11111111 = some .rst38 ∧
  decodeTableWord 16 0b1100101100110110 = some .swapAtHl ∧
  decodeTableWord 16 0b1100101101111100 = some .bit7H ∧
  decodeTableWord 8 0b11011101 = some .illegalDD

/-! ### The bus -/

/-- R50, R51: the fifteen rows with their bounds and permissions; every address lies in exactly one row. The three inner
boundaries of video RAM are the default of the parameter `VRAM_SPLIT`, which the model fixes (R53; log entry 19, DEDUCED). -/
def Obligations.EveryAddressInOneRegion : Prop :=
  ([Region.rom0, .romX, .tile0, .tile1, .map0, .map1, .eram, .wram0, .wramX, .echo, .oam, .unusable, .io, .hram,
      .ie].map fun g => (regionFirst g, regionLast g)) =
    [(0x0000, 0x3FFF), (0x4000, 0x7FFF), (0x8000, 0x8FFF), (0x9000, 0x97FF), (0x9800, 0x9BFF), (0x9C00, 0x9FFF),
      (0xA000, 0xBFFF), (0xC000, 0xCFFF), (0xD000, 0xDFFF), (0xE000, 0xFDFF), (0xFE00, 0xFE9F), (0xFEA0, 0xFEFF),
      (0xFF00, 0xFF7F), (0xFF80, 0xFFFE), (0xFFFF, 0xFFFF)] ∧
  (∀ g : Region, regionPermission g = .readOnly ↔ g = .rom0 ∨ g = .romX) ∧
  ∀ (a : Word) (g : Region), regionFirst g ≤ a.toNat ∧ a.toNat ≤ regionLast g ↔ g = regionOf a

/-- R54: the triple of every address; an echo address has the triple of the address 0x2000 below, in working RAM. -/
def Obligations.ResolveGivesTriple : Prop :=
  ∀ a : Word,
    ((resolve a).region = .echo → False) ∧
    (0xE000 ≤ a.toNat → a.toNat ≤ 0xFDFF →
      resolve a = resolve (a - 0x2000#16) ∧ ((resolve a).region = .wram0 ∨ (resolve a).region = .wramX)) ∧
    (a.toNat < 0xE000 ∨ 0xFDFF < a.toNat →
      regionFirst (resolve a).region ≤ a.toNat ∧ a.toNat ≤ regionLast (resolve a).region ∧
      (resolve a).offset = a.toNat - regionFirst (resolve a).region ∧
      (resolve a).permission = regionPermission (resolve a).region)

/-- R55: the storage byte that a read of each owned region returns, with no change of state (R64). -/
def Obligations.ReadReturnsStorageByte : Prop :=
  ∀ (s : State) (a : Word),
    (a.toNat ≤ 0x3FFF → s.readByte a = .ok (s.mem.read ⟨.rom, a.toNat⟩, s)) ∧
    (0x4000 ≤ a.toNat → a.toNat ≤ 0x7FFF →
      s.readByte a = .ok (s.mem.read ⟨.rom, s.romSlot1 * 0x4000 + (a.toNat - 0x4000)⟩, s)) ∧
    (0x8000 ≤ a.toNat → a.toNat ≤ 0x8FFF → s.readByte a = .ok (s.mem.read ⟨.tile0, a.toNat - 0x8000⟩, s)) ∧
    (0x9000 ≤ a.toNat → a.toNat ≤ 0x97FF → s.readByte a = .ok (s.mem.read ⟨.tile1, a.toNat - 0x9000⟩, s)) ∧
    (0x9800 ≤ a.toNat → a.toNat ≤ 0x9BFF → s.readByte a = .ok (s.mem.read ⟨.map0, a.toNat - 0x9800⟩, s)) ∧
    (0x9C00 ≤ a.toNat → a.toNat ≤ 0x9FFF → s.readByte a = .ok (s.mem.read ⟨.map1, a.toNat - 0x9C00⟩, s)) ∧
    (0xA000 ≤ a.toNat → a.toNat ≤ 0xBFFF →
      s.readByte a = .ok (s.mem.read ⟨.eram, s.eramBank.val * 0x2000 + (a.toNat - 0xA000)⟩, s)) ∧
    (0xC000 ≤ a.toNat → a.toNat ≤ 0xCFFF → s.readByte a = .ok (s.mem.read ⟨.wram, a.toNat - 0xC000⟩, s)) ∧
    (0xD000 ≤ a.toNat → a.toNat ≤ 0xDFFF →
      s.readByte a = .ok (s.mem.read ⟨.wram, s.wramSlot1.val * 0x1000 + (a.toNat - 0xD000)⟩, s)) ∧
    (0xFE00 ≤ a.toNat → a.toNat ≤ 0xFE9F → s.readByte a = .ok (s.mem.read ⟨.oam, a.toNat - 0xFE00⟩, s))

/-- R59: a write to ROM is silently discarded: no byte, no bank selector, nothing changes. -/
def Obligations.ReadOnlyWriteDiscarded : Prop :=
  ∀ (s : State) (a : Word) (v : Byte), (resolve a).permission = .readOnly → s.writeByte a v = .ok s

/-- R64, R65 on the owned writable regions and the echo: the byte written is read back, every address that names
another stored byte reads as before, and nothing but memory changes. -/
def Obligations.WriteThenRead : Prop :=
  ∀ (s : State) (a : Word) (v : Byte), s.mem.wf s.romBanks = true → 0x8000 ≤ a.toNat → a.toNat ≤ 0xFE9F →
    ∃ t : State, s.writeByte a v = .ok t ∧ t.readByte a = .ok (v, t) ∧ t = { s with mem := t.mem } ∧
      ∀ b : Word, s.target b ≠ s.target a → t.byteAt b = s.byteAt b

/-- R73: (a) echo equivalence, (b) the little-endian round trip, also across two writable regions, (c) the boundary
write of 0xBEEF at 0x7FFF. -/
def Obligations.BusLaws : Prop :=
  (∀ (s : State) (a : Word), 0xE000 ≤ a.toNat → a.toNat ≤ 0xFDFF →
    s.readByte a = s.readByte (a - 0x2000#16) ∧ ∀ v : Byte, s.writeByte a v = s.writeByte (a - 0x2000#16) v) ∧
  (∀ (s : State) (a w : Word), s.mem.wf s.romBanks = true → 0x8000 ≤ a.toNat → a.toNat < 0xFE9F →
    ∃ t : State, s.writeWord a w = .ok t ∧ t.readWord a = .ok (w, t)) ∧
  (∀ s : State, s.mem.wf s.romBanks = true →
    ∃ t : State, s.writeWord 0x7FFF#16 0xBEEF#16 = .ok t ∧ t.readByte 0x7FFF#16 = .ok (s.byteAt 0x7FFF#16, t) ∧
      t.readByte 0x8000#16 = .ok (0xBE#8, t) ∧
      t.readWord 0x7FFF#16 = .ok (joinBytes 0xBE#8 (s.byteAt 0x7FFF#16), t))

/-- R60, R63, R303: with no handler every access to the region is fatal, reads and writes alike, and an access is fatal
in no other way. -/
def Obligations.UnwiredAccessIsFatal : Prop :=
  ∀ (s : State) (a : Word) (v : Byte),
    (s.handler (resolve a).region = some .absent →
      s.readByte a = .error (.unwiredRegion (resolve a).region a .read) ∧
      s.writeByte a v = .error (.unwiredRegion (resolve a).region a .write)) ∧
    (s.handler (resolve a).region ≠ some .absent →
      (∃ r, s.readByte a = .ok r) ∧ ∃ t, s.writeByte a v = .ok t) ∧
    ((resolve a).region ∈ [Region.unusable, .io, .hram, .ie] ↔ 0xFEA0 ≤ a.toNat)

/-- R61, R62: what a present handler answers. The kinds of handler are the model's: a `storage` handler for each of the
four regions and the `IO` handler whose one byte `IF` is plain storage (log entry 5, DEDUCED, from R61, R322 and D29), and
a `device`, whose answer is the free value `Config.extRead` of the calls made before (log entry 6, DESIGN CHOICE). -/
def Obligations.HandlerAnswers : Prop :=
  ∀ (s : State) (a : Word) (v : Byte) (g : Region), (resolve a).region = g →
    (s.handler g = some .storage →
      s.readByte a = .ok (s.mem.read ⟨handlerBuffer g, (resolve a).offset⟩, s) ∧
      s.writeByte a v = .ok { s with mem := s.mem.write ⟨handlerBuffer g, (resolve a).offset⟩ v }) ∧
    (s.handler g = some .ifOnly → (resolve a).offset = 0x0F →
      s.readByte a = .ok (s.mem.read ⟨handlerBuffer g, 0x0F⟩, s) ∧
      s.writeByte a v = .ok { s with mem := s.mem.write ⟨handlerBuffer g, 0x0F⟩ v }) ∧
    (s.handler g = some .ifOnly → (resolve a).offset ≠ 0x0F →
      s.readByte a = .ok (0xFF#8, s) ∧ s.writeByte a v = .ok s) ∧
    (s.handler g = some .device →
      s.readByte a = .ok ((Config.extRead s.extCalls g (resolve a).offset).getD 0xFF#8,
        { s with extCalls := .read g (resolve a).offset :: s.extCalls }) ∧
      s.writeByte a v = .ok { s with extCalls := .write g (resolve a).offset v :: s.extCalls })

/-! ### Registers and flags -/

/-- R22, R25: a pair reads as its halves, high byte first; writing a pair writes both halves (`w[7:4] : 0` for F) and
leaves every other register; writing a half leaves the other half and every other register (the 8-bit ones, F, SP and pc)
unchanged. -/
def Obligations.PairsAndHalves : Prop :=
  ∀ (s : State) (w : Word) (v : Byte),
    (s.bc = joinBytes s.b s.c ∧ s.de = joinBytes s.d s.e ∧ s.hl = joinBytes s.h s.l ∧ s.af = joinBytes s.a s.f) ∧
    (∀ p : Pair, (s.setPair p w).pair p = w ∧ (∀ q, q ≠ p → (s.setPair p w).pair q = s.pair q) ∧
      (s.setPair p w).af = s.af ∧ (s.setPair p w).pc = s.pc) ∧
    (∀ p : StackPair, (p ≠ .af → (s.setStackPair p w).stackPair p = w) ∧
      (∀ q, q ≠ p → (s.setStackPair p w).stackPair q = s.stackPair q) ∧
      (s.setStackPair p w).sp = s.sp ∧ (s.setStackPair p w).pc = s.pc) ∧
    (s.setStackPair .af w).a.toNat = w.toNat / 256 ∧
    (s.setStackPair .af w).f.toNat = w.toNat / 16 % 16 * 16 ∧
    (∀ r q : Reg8, (s.setReg r v).reg q = if q = r then v else s.reg q) ∧
    (∀ r : Reg8, (s.setReg r v).f = s.f ∧ (s.setReg r v).sp = s.sp ∧ (s.setReg r v).pc = s.pc) ∧
    (s.setReg .b v).bc = joinBytes v (loByte s.bc) ∧ (s.setReg .c v).bc = joinBytes (hiByte s.bc) v ∧
    (s.setReg .d v).de = joinBytes v (loByte s.de) ∧ (s.setReg .e v).de = joinBytes (hiByte s.de) v ∧
    (s.setReg .h v).hl = joinBytes v (loByte s.hl) ∧ (s.setReg .l v).hl = joinBytes (hiByte s.hl) v ∧
    (s.setReg .a v).af = joinBytes v (loByte s.af)

/-- R28, R29: the places of the four flags, and that writing one leaves the other three as they were and bits 3:0 zero. -/
def Obligations.FlagBitIsolation : Prop :=
  ∀ f : Byte,
    (flag f .z = f.getLsbD 7 ∧ flag f .n = f.getLsbD 6 ∧ flag f .h = f.getLsbD 5 ∧ flag f .c = f.getLsbD 4) ∧
    ∀ (k j : Flag) (v : Bool), flag (withFlag f k v) j = (if j = k then v else flag f j) ∧
      (withFlag f k v).toNat % 16 = 0

/-! ### What each instruction does -/

/-- R120, R121, R150, R152: register and immediate moves. -/
def Obligations.RegisterLoads : Prop :=
  ∀ (i : Instr) (s : State),
    (∀ dst r, formOf i = .ldRegReg dst r → encode i = [opcode 1 dst.code r.code] ∧
      exec i s = .next { s.setReg dst (s.reg r) with cycles := 1 }) ∧
    (∀ dst n8, formOf i = .ldRegImm dst n8 → encode i = [opcode 0 dst.code 6, n8] ∧
      exec i s = .next { s.setReg dst n8 with cycles := 2 }) ∧
    (∀ p n16, formOf i = .ldPairImm p n16 → encode i = [opcode 0 (2 * p.code) 1, loByte n16, hiByte n16] ∧
      exec i s = .next { s.setPair p n16 with cycles := 3 }) ∧
    (formOf i = .ldSpHl → encode i = [0xF9#8] ∧ exec i s = .next { s with sp := s.hl, cycles := 2 })

/-- R122, R125, R126, R129, R131, R133: loads of a byte from memory. -/
def Obligations.MemoryLoads : Prop :=
  ∀ (i : Instr) (s : State),
    (∀ dst, formOf i = .ldRegMem dst → encode i = [opcode 1 dst.code 6] ∧ loadsByte i s dst s.hl 2) ∧
    (formOf i = .loadA .bc → encode i = [0x0A#8] ∧ loadsByte i s .a s.bc 2) ∧
    (formOf i = .loadA .de → encode i = [0x1A#8] ∧ loadsByte i s .a s.de 2) ∧
    (∀ n16, formOf i = .loadAbs n16 → encode i = [0xFA#8, loByte n16, hiByte n16] ∧ loadsByte i s .a n16 4) ∧
    (∀ n8, formOf i = .loadHighImm n8 → encode i = [0xF0#8, n8] ∧ loadsByte i s .a (0xFF00#16 + zext16 n8) 3) ∧
    (formOf i = .loadHighC → encode i = [0xF2#8] ∧ loadsByte i s .a (0xFF00#16 + zext16 s.c) 2)

/-- R123, R124, R127, R128, R130, R132, R134: stores of a byte to memory. -/
def Obligations.MemoryStores : Prop :=
  ∀ (i : Instr) (s : State),
    (∀ r, formOf i = .ldMemReg r → encode i = [opcode 1 6 r.code] ∧ storesByte i s s.hl (s.reg r) 2) ∧
    (∀ n8, formOf i = .ldMemImm n8 → encode i = [0x36#8, n8] ∧ storesByte i s s.hl n8 3) ∧
    (formOf i = .storeA .bc → encode i = [0x02#8] ∧ storesByte i s s.bc s.a 2) ∧
    (formOf i = .storeA .de → encode i = [0x12#8] ∧ storesByte i s s.de s.a 2) ∧
    (∀ n16, formOf i = .storeAbs n16 → encode i = [0xEA#8, loByte n16, hiByte n16] ∧ storesByte i s n16 s.a 4) ∧
    (∀ n8, formOf i = .storeHighImm n8 → encode i = [0xE0#8, n8] ∧ storesByte i s (0xFF00#16 + zext16 n8) s.a 3) ∧
    (formOf i = .storeHighC → encode i = [0xE2#8] ∧ storesByte i s (0xFF00#16 + zext16 s.c) s.a 2)

/-- R135 to R138: the access at HL, then HL one up or one down modulo 2^16. -/
def Obligations.SteppedAccesses : Prop :=
  ∀ (i : Instr) (s : State) (dir : HlStep),
    (formOf i = .storeAStep dir →
      encode i = [match dir with | .inc => 0x22#8 | .dec => 0x32#8] ∧
      (s.accessible s.hl = true →
        exec i s = .next { (s.store s.hl s.a).setHl (s.hlStepped dir) with cycles := 2 }) ∧
      (s.accessible s.hl = false → exec i s = .fault (accessFault s.hl .write))) ∧
    (formOf i = .loadAStep dir →
      encode i = [match dir with | .inc => 0x2A#8 | .dec => 0x3A#8] ∧
      (s.accessible s.hl = true →
        exec i s = .next { (s.noteRead s.hl).setHl (s.hlStepped dir) with a := s.byteAt s.hl, cycles := 2 }) ∧
      (s.accessible s.hl = false → exec i s = .fault (accessFault s.hl .read)))

/-- R151, R154, R155, R156: `LD (n16),SP`, `PUSH`, `POP`; a byte that cannot be reached is fatal. -/
def Obligations.StackAndWordStores : Prop :=
  ∀ (i : Instr) (s : State),
    (∀ n16, formOf i = .ldMemSp n16 → encode i = [0x08#8, loByte n16, hiByte n16] ∧
      (s.wordReady n16 = true →
        exec i s = .next { (s.store n16 (loByte s.sp)).store (n16 + 1#16) (hiByte s.sp) with cycles := 5 }) ∧
      (s.wordReady n16 = false → exec i s = .fault (s.wordFault n16 .write))) ∧
    (∀ p, formOf i = .push p → encode i = [opcode 3 (2 * p.code) 5] ∧
      (s.wordReady (s.sp - 2#16) = true →
        exec i s = .next { (s.store (s.sp - 2#16) (loByte (s.stackPair p))).store (s.sp - 2#16 + 1#16)
          (hiByte (s.stackPair p)) with sp := s.sp - 2#16, cycles := 4 }) ∧
      (s.wordReady (s.sp - 2#16) = false → exec i s = .fault (s.wordFault (s.sp - 2#16) .write))) ∧
    (∀ p, formOf i = .pop p → encode i = [opcode 3 (2 * p.code) 1] ∧
      (s.wordReady s.sp = true →
        exec i s = .next { (s.noteWord s.sp).setStackPair p (s.wordAt s.sp) with sp := s.sp + 2#16, cycles := 3 }) ∧
      (s.wordReady s.sp = false → exec i s = .fault (s.wordFault s.sp .read)))

/-- R153, R213: the signed sum with SP, and the flags of the unsigned addition on the low byte. -/
def Obligations.SpOffsets : Prop :=
  ∀ (i : Instr) (s : State) (e8 : Byte),
    (formOf i = .ldHlSp e8 → encode i = [0xF8#8, e8] ∧
      ∃ f, exec i s = .next { s.setHl (s.sp + e8.signExtend 16) with f := f, cycles := 3 } ∧
        flagsAre f false false (decide (0xF < s.sp.toNat % 16 + e8.toNat % 16))
          (decide (0xFF < s.sp.toNat % 256 + e8.toNat))) ∧
    (formOf i = .addSp e8 → encode i = [0xE8#8, e8] ∧
      ∃ f, exec i s = .next { s with sp := s.sp + e8.signExtend 16, f := f, cycles := 4 } ∧
        flagsAre f false false (decide (0xF < s.sp.toNat % 16 + e8.toNat % 16))
          (decide (0xFF < s.sp.toNat % 256 + e8.toNat)))

/-- R166 to R171: `ADD` and `ADC` with a register, the byte at HL or an immediate. -/
def Obligations.Additions : Prop :=
  ∀ (i : Instr) (s : State) (o : Operand) (op : AluOp), formOf i = aluForm op o → op = .add ∨ op = .adc →
    encode i = aluBytes op o ∧
    (s.operandReady o = true → ∀ cin, cin = (if op = .adc ∧ flagC s.f = true then 1 else 0) →
      ∃ f, exec i s = .next { s.afterOperand o with
          a := s.a + s.operand o + BitVec.ofNat 8 cin, f := f, cycles := aluCycles o } ∧
        flagsAre f (decide ((s.a.toNat + (s.operand o).toNat + cin) % 256 = 0)) false
          (decide (0xF < s.a.toNat % 16 + (s.operand o).toNat % 16 + cin))
          (decide (0xFF < s.a.toNat + (s.operand o).toNat + cin))) ∧
    (s.operandReady o = false → exec i s = .fault (accessFault s.hl .read))

/-- R172 to R177, R187 to R189: `SUB`, `SBC` and `CP`; H and C are borrows, and `CP` leaves A. -/
def Obligations.Subtractions : Prop :=
  ∀ (i : Instr) (s : State) (o : Operand) (op : AluOp), formOf i = aluForm op o → op = .sub ∨ op = .sbc ∨ op = .cp →
    encode i = aluBytes op o ∧
    (s.operandReady o = true → ∀ cin, cin = (if op = .sbc ∧ flagC s.f = true then 1 else 0) →
      ∃ f, exec i s = .next { s.afterOperand o with
          a := if op = .cp then s.a else s.a - s.operand o - BitVec.ofNat 8 cin, f := f, cycles := aluCycles o } ∧
        flagsAre f (decide (((s.a.toNat : Int) - (s.operand o).toNat - cin) % 256 = 0)) true
          (decide (s.a.toNat % 16 < (s.operand o).toNat % 16 + cin))
          (decide (s.a.toNat < (s.operand o).toNat + cin))) ∧
    (s.operandReady o = false → exec i s = .fault (accessFault s.hl .read))

/-- R178 to R186: `AND`, `XOR` and `OR`; `AND` sets H, the others clear it. -/
def Obligations.LogicOperations : Prop :=
  ∀ (i : Instr) (s : State) (o : Operand) (op : AluOp) (r : Byte), formOf i = aluForm op o →
    (op = .and ∧ r = s.a &&& s.operand o) ∨ (op = .xor ∧ r = s.a ^^^ s.operand o) ∨
      (op = .or ∧ r = s.a ||| s.operand o) →
    encode i = aluBytes op o ∧
    (s.operandReady o = true →
      ∃ f, exec i s = .next { s.afterOperand o with a := r, f := f, cycles := aluCycles o } ∧
        flagsAre f (decide (r = 0#8)) false (decide (op = .and)) false) ∧
    (s.operandReady o = false → exec i s = .fault (accessFault s.hl .read))

/-- R190 to R193: `INC` and `DEC` of a register or the byte at HL; C is unchanged. -/
def Obligations.IncrementsAndDecrements : Prop :=
  ∀ (i : Instr) (s : State) (p : Place),
    (formOf i = incForm p → encode i = [opcode 0 p.code 4] ∧
      (s.placeReady p = true →
        ∃ f, exec i s = .next { s.putPlace (s.placeValue p + 1#8) p with f := f, cycles := p.cost 1 3 } ∧
          flagsAre f (decide (s.placeValue p = 0xFF#8)) false (decide ((s.placeValue p).toNat % 16 = 0xF)) (flagC s.f)) ∧
      (s.placeReady p = false → exec i s = .fault (accessFault s.hl .read))) ∧
    (formOf i = decForm p → encode i = [opcode 0 p.code 5] ∧
      (s.placeReady p = true →
        ∃ f, exec i s = .next { s.putPlace (s.placeValue p - 1#8) p with f := f, cycles := p.cost 1 3 } ∧
          flagsAre f (decide (s.placeValue p = 0x01#8)) true (decide ((s.placeValue p).toNat % 16 = 0x0)) (flagC s.f)) ∧
      (s.placeReady p = false → exec i s = .fault (accessFault s.hl .read)))

/-- R194: `DAA`; both tests of the addition branch look at A before any adjustment. -/
def Obligations.DecimalAdjust : Prop :=
  ∀ (i : Instr) (s : State) (low high : Bool) (r : Byte) (c : Bool), formOf i = .daa →
    low = (flagH s.f || (!flagN s.f && decide (9 < s.a.toNat % 16))) →
    high = (flagC s.f || (!flagN s.f && decide (0x99 < s.a.toNat))) →
    r = (if flagN s.f then s.a - (if low then 0x06#8 else 0#8) - (if high then 0x60#8 else 0#8)
      else s.a + (if low then 0x06#8 else 0#8) + (if high then 0x60#8 else 0#8)) →
    c = (if flagN s.f then flagC s.f else high) →
    encode i = [0x27#8] ∧
    ∃ f, exec i s = .next { s with a := r, f := f, cycles := 1 } ∧ flagsAre f (decide (r = 0#8)) (flagN s.f) false c

/-- R194, corner cases: after `ADD A,B` of two packed-decimal bytes, `DAA` leaves the packed-decimal sum modulo 100 and
the decimal carry; after `SUB B` the difference modulo 100 and the decimal borrow. -/
def Obligations.DecimalAdjustCorrectsPackedDecimal : Prop :=
  ∀ (s t u : State) (x y : Nat), x < 100 → y < 100 →
    s.a.toNat = x / 10 * 16 + x % 10 → s.b.toNat = y / 10 * 16 + y % 10 →
    (exec .addB s = .next t → exec .daa t = .next u →
      u.a.toNat = (x + y) % 100 / 10 * 16 + (x + y) % 10 ∧ flagC u.f = decide (100 ≤ x + y)) ∧
    (exec .subB s = .next t → exec .daa t = .next u →
      u.a.toNat = (100 + x - y) % 100 / 10 * 16 + (100 + x - y) % 10 ∧ flagC u.f = decide (x < y))

/-- R195 to R197: `CPL`, `SCF`, `CCF`. -/
def Obligations.FlagAdjustments : Prop :=
  ∀ (i : Instr) (s : State),
    (formOf i = .cpl → encode i = [0x2F#8] ∧
      ∃ f, exec i s = .next { s with a := ~~~s.a, f := f, cycles := 1 } ∧ flagsAre f (flagZ s.f) true true (flagC s.f)) ∧
    (formOf i = .scf → encode i = [0x37#8] ∧
      ∃ f, exec i s = .next { s with f := f, cycles := 1 } ∧ flagsAre f (flagZ s.f) false false true) ∧
    (formOf i = .ccf → encode i = [0x3F#8] ∧
      ∃ f, exec i s = .next { s with f := f, cycles := 1 } ∧ flagsAre f (flagZ s.f) false false (!flagC s.f))

/-- R210 to R212: `ADD HL,rr`, `INC rr`, `DEC rr`. -/
def Obligations.PairArithmetic : Prop :=
  ∀ (i : Instr) (s : State) (p : Pair),
    (formOf i = .addHl p → encode i = [opcode 0 (2 * p.code + 1) 1] ∧
      ∃ f, exec i s = .next { s.setHl (s.hl + s.pair p) with f := f, cycles := 2 } ∧
        flagsAre f (flagZ s.f) false (decide (0xFFF < s.hl.toNat % 0x1000 + (s.pair p).toNat % 0x1000))
          (decide (0xFFFF < s.hl.toNat + (s.pair p).toNat))) ∧
    (formOf i = .incPair p → encode i = [opcode 0 (2 * p.code) 3] ∧
      exec i s = .next { s.setPair p (s.pair p + 1#16) with cycles := 2 }) ∧
    (formOf i = .decPair p → encode i = [opcode 0 (2 * p.code + 1) 3] ∧
      exec i s = .next { s.setPair p (s.pair p - 1#16) with cycles := 2 })

/-- R220 to R223: `RLCA`, `RRCA`, `RLA`, `RRA` always clear Z. -/
def Obligations.AccumulatorRotates : Prop :=
  ∀ (i : Instr) (s : State),
    (formOf i = .rotA .rlc → encode i = [0x07#8] ∧
      ∃ f, exec i s = .next { s with a := s.a.rotateLeft 1, f := f, cycles := 1 } ∧
        flagsAre f false false false (s.a.getLsbD 7)) ∧
    (formOf i = .rotA .rrc → encode i = [0x0F#8] ∧
      ∃ f, exec i s = .next { s with a := s.a.rotateRight 1, f := f, cycles := 1 } ∧
        flagsAre f false false false (s.a.getLsbD 0)) ∧
    (formOf i = .rotA .rl → encode i = [0x17#8] ∧
      ∃ f, exec i s = .next { s with
          a := s.a <<< 1 ||| (if flagC s.f then 0x01#8 else 0#8), f := f, cycles := 1 } ∧
        flagsAre f false false false (s.a.getLsbD 7)) ∧
    (formOf i = .rotA .rr → encode i = [0x1F#8] ∧
      ∃ f, exec i s = .next { s with
          a := s.a >>> 1 ||| (if flagC s.f then 0x80#8 else 0#8), f := f, cycles := 1 } ∧
        flagsAre f false false false (s.a.getLsbD 0))

/-- R225, R226, R229, R230, R233, R234, R237, R238: the left rotates and shift and the nibble swap of a register or the
byte at HL. -/
def Obligations.LeftRotatesAndSwap : Prop :=
  ∀ (i : Instr) (s : State) (p : Place) (op : RotOp) (v r : Byte) (c : Bool), formOf i = rotForm op p →
    v = s.placeValue p →
    (op = .rlc ∧ r = v.rotateLeft 1 ∧ c = v.getLsbD 7) ∨
      (op = .rl ∧ r = v <<< 1 ||| (if flagC s.f then 0x01#8 else 0#8) ∧ c = v.getLsbD 7) ∨
      (op = .sla ∧ r = v <<< 1 ∧ c = v.getLsbD 7) ∨ (op = .swap ∧ r = v.rotateLeft 4 ∧ c = false) →
    encode i = [0xCB#8, opcode 0 op.code p.code] ∧
    (s.placeReady p = true →
      ∃ f, exec i s = .next { s.putPlace r p with f := f, cycles := p.cost 2 4 } ∧
        flagsAre f (decide (r = 0#8)) false false c) ∧
    (s.placeReady p = false → exec i s = .fault (accessFault s.hl .read))

/-- R227, R228, R231, R232, R235, R236, R239, R240: the right rotates and shifts. -/
def Obligations.RightRotatesAndShifts : Prop :=
  ∀ (i : Instr) (s : State) (p : Place) (op : RotOp) (v r : Byte) (c : Bool), formOf i = rotForm op p →
    v = s.placeValue p → c = v.getLsbD 0 →
    (op = .rrc ∧ r = v.rotateRight 1) ∨ (op = .rr ∧ r = v >>> 1 ||| (if flagC s.f then 0x80#8 else 0#8)) ∨
      (op = .sra ∧ r = v.sshiftRight 1) ∨ (op = .srl ∧ r = v >>> 1) →
    encode i = [0xCB#8, opcode 0 op.code p.code] ∧
    (s.placeReady p = true →
      ∃ f, exec i s = .next { s.putPlace r p with f := f, cycles := p.cost 2 4 } ∧
        flagsAre f (decide (r = 0#8)) false false c) ∧
    (s.placeReady p = false → exec i s = .fault (accessFault s.hl .read))

/-- R250, R251: `BIT` sets Z to the complement of the bit, clears N, sets H, keeps C and writes nothing else. -/
def Obligations.BitTests : Prop :=
  ∀ (i : Instr) (s : State) (p : Place) (b : Fin 8), formOf i = bitForm b p →
    encode i = [0xCB#8, opcode 1 b.val p.code] ∧
    (s.placeReady p = true →
      ∃ f, exec i s = .next { s.afterPlace p with f := f, cycles := p.cost 2 3 } ∧
        flagsAre f (!(s.placeValue p).getLsbD b.val) false true (flagC s.f)) ∧
    (s.placeReady p = false → exec i s = .fault (accessFault s.hl .read))

/-- R252 to R255: `RES` and `SET` change one bit of the place and no flag. -/
def Obligations.BitChanges : Prop :=
  ∀ (i : Instr) (s : State) (p : Place) (b : Fin 8) (r : Byte),
    (formOf i = resForm b p → (∀ k < 8, r.getLsbD k = (if k = b.val then false else (s.placeValue p).getLsbD k)) →
      encode i = [0xCB#8, opcode 2 b.val p.code] ∧
      (s.placeReady p = true → exec i s = .next { s.putPlace r p with cycles := p.cost 2 4 }) ∧
      (s.placeReady p = false → exec i s = .fault (accessFault s.hl .read))) ∧
    (formOf i = setForm b p → (∀ k < 8, r.getLsbD k = (if k = b.val then true else (s.placeValue p).getLsbD k)) →
      encode i = [0xCB#8, opcode 3 b.val p.code] ∧
      (s.placeReady p = true → exec i s = .next { s.putPlace r p with cycles := p.cost 2 4 }) ∧
      (s.placeReady p = false → exec i s = .fault (accessFault s.hl .read)))

/-- R261 to R265 with the conditions of R260: jumps, taken and not taken. -/
def Obligations.Jumps : Prop :=
  ∀ (i : Instr) (s : State) (cc : Cond) (taken : Bool),
    taken = (match cc with | .nz => !s.f.getLsbD 7 | .z => s.f.getLsbD 7 | .nc => !s.f.getLsbD 4 | .c => s.f.getLsbD 4) →
    (∀ n16, formOf i = .jp n16 → encode i = [0xC3#8, loByte n16, hiByte n16] ∧
      exec i s = .next { s with pc := n16, cycles := 4 }) ∧
    (∀ n16, formOf i = .jpCond cc n16 → encode i = [opcode 3 cc.code 2, loByte n16, hiByte n16] ∧
      exec i s = .next (if taken then { s with pc := n16, cycles := 4 } else { s with cycles := 3 })) ∧
    (formOf i = .jpHl → encode i = [0xE9#8] ∧ exec i s = .next { s with pc := s.hl, cycles := 1 }) ∧
    (∀ e8, formOf i = .jr e8 → encode i = [0x18#8, e8] ∧
      exec i s = .next { s with pc := s.pc + e8.signExtend 16, cycles := 3 }) ∧
    (∀ e8, formOf i = .jrCond cc e8 → encode i = [opcode 0 (cc.code + 4) 0, e8] ∧
      exec i s = .next (if taken then { s with pc := s.pc + e8.signExtend 16, cycles := 3 } else { s with cycles := 2 }))

/-- R266, R267, R271: calls and restarts; not taken, SP and memory are untouched. -/
def Obligations.Calls : Prop :=
  ∀ (i : Instr) (s : State) (cc : Cond),
    (∀ n16, formOf i = .call n16 → encode i = [0xCD#8, loByte n16, hiByte n16] ∧ callsTo i s n16 6) ∧
    (∀ n16, formOf i = .callCond cc n16 → encode i = [opcode 3 cc.code 4, loByte n16, hiByte n16] ∧
      (s.cond cc = true → callsTo i s n16 6) ∧
      (s.cond cc = false → exec i s = .next { s with cycles := 3 })) ∧
    (∀ t, formOf i = .rst t → encode i = [opcode 3 t.val 7] ∧ callsTo i s (BitVec.ofNat 16 (8 * t.val)) 4)

/-- R268 to R270: returns; not taken, the stack is not read. `RETI` sets `ime` where the extension is present. -/
def Obligations.Returns : Prop :=
  ∀ (i : Instr) (s : State) (cc : Cond),
    (formOf i = .ret → encode i = [0xC9#8] ∧
      (s.wordReady s.sp = true →
        exec i s = .next { s.noteWord s.sp with sp := s.sp + 2#16, pc := s.wordAt s.sp, cycles := 4 }) ∧
      (s.wordReady s.sp = false → exec i s = .fault (s.wordFault s.sp .read))) ∧
    (formOf i = .retCond cc → encode i = [opcode 3 cc.code 0] ∧
      (s.cond cc = true → s.wordReady s.sp = true →
        exec i s = .next { s.noteWord s.sp with sp := s.sp + 2#16, pc := s.wordAt s.sp, cycles := 5 }) ∧
      (s.cond cc = true → s.wordReady s.sp = false → exec i s = .fault (s.wordFault s.sp .read)) ∧
      (s.cond cc = false → exec i s = .next { s with cycles := 2 })) ∧
    (formOf i = .reti → encode i = [0xD9#8] ∧
      (s.wordReady s.sp = true →
        exec i s = .next { s.noteWord s.sp with
          sp := s.sp + 2#16, pc := s.wordAt s.sp, ime := s.ime || s.interruptExt, cycles := 4 }) ∧
      (s.wordReady s.sp = false → exec i s = .fault (s.wordFault s.sp .read)))

/-- R280, R283, R284: `NOP`, `DI` and `EI`, in the base core and with the extension (R327). -/
def Obligations.NopAndInterruptMask : Prop :=
  ∀ (i : Instr) (s : State),
    (formOf i = .nop → encode i = [0x00#8] ∧ exec i s = .next { s with cycles := 1 }) ∧
    (formOf i = .di → encode i = [0xF3#8] ∧
      (s.interruptExt = true → exec i s = .next { s with ime := false, eiPending := false, cycles := 1 }) ∧
      (s.interruptExt = false → exec i s = .next { s with cycles := 1 })) ∧
    (formOf i = .ei → encode i = [0xFB#8] ∧
      (s.interruptExt = true → exec i s = .next { s with eiPending := true, cycles := 1 }) ∧
      (s.interruptExt = false → exec i s = .next { s with cycles := 1 }))

/-- R281, R282, R325, R326: with the extension `HALT` and `STOP` halt the machine; in the base core they are the fatal
condition `UnimplementedInstruction` at the address of the opcode. -/
def Obligations.HaltAndStop : Prop :=
  ∀ (i : Instr) (s : State),
    (formOf i = .halt → encode i = [0x76#8] ∧
      (s.interruptExt = true → exec i s = .next { s with halted := true, cycles := 1 }) ∧
      (s.interruptExt = false → exec i s = .fault (.unimplementedInstruction 0x76#8 (s.pc - 1#16)))) ∧
    (∀ n8, formOf i = .stop n8 → encode i = [0x10#8, n8] ∧
      (s.interruptExt = true → exec i s = .next { s with halted := true, cycles := 1 }) ∧
      (s.interruptExt = false → exec i s = .fault (.unimplementedInstruction 0x10#8 (s.pc - 2#16))))

/-- R286: the eleven illegal opcodes stop with `InvalidOpcode` at the address of the opcode in every state; a step of the
base core that finds one does so after the opcode fetch alone, whatever follows it. -/
def Obligations.IllegalOpcodesStop : Prop :=
  ∀ (i : Instr) (s : State) (k : IllegalOp), formOf i = .illegal k → encode i = [k.byte] ∧
    k.byte ∈ [0xD3#8, 0xDB#8, 0xDD#8, 0xE3#8, 0xE4#8, 0xEB#8, 0xEC#8, 0xED#8, 0xF4#8, 0xFC#8, 0xFD#8] ∧
    exec i s = .fault (.invalidOpcode k.byte (s.pc - 1#16)) ∧
    (s.interruptExt = false → s.accessible s.pc = true → s.byteAt s.pc = k.byte →
      step s = .fault (.invalidOpcode k.byte s.pc))

/-- R285: the prefix row runs the extended instruction, with its flags and cost. -/
def Obligations.PrefixRunsExtended : Prop :=
  ∀ (ext : Byte) (s : State), encode (.prefixCb ext) = encode (extendedInstr ext) ∧
    exec (.prefixCb ext) s = exec (extendedInstr ext) s ∧
    ((fieldZ ext = 6 → s.accessible s.hl = true) →
      ∃ t, exec (.prefixCb ext) s = .next t ∧ exec (extendedInstr ext) s = .next t ∧ 2 ≤ t.cycles ∧ t.cycles ≤ 4)

/-! ### Rules over all instructions -/

/-- R24, R26: a completed instruction leaves every 8-bit register, SP and pc as they were but for those its form
writes. -/
def Obligations.RegisterFrame : Prop :=
  ∀ (i : Instr) (s t : State), exec i s = .next t →
    (∀ r, (effectForm i).writesReg r = false → t.reg r = s.reg r) ∧
    ((effectForm i).writesSp = false → t.sp = s.sp) ∧
    ((effectForm i).transfers = false → t.pc = s.pc)

/-- R30: the complete list of what writes which flag; no other instruction changes F. -/
def Obligations.FlagFrame : Prop :=
  ∀ (i : Instr) (s t : State), exec i s = .next t →
    (∀ k, (effectForm i).writesFlag k = false → flag t.f k = flag s.f k) ∧
    ((∀ k, (effectForm i).writesFlag k = false) → t.f = s.f) ∧
    (s.f.toNat % 16 = 0 → t.f.toNat % 16 = 0)

/-- A completed instruction leaves every byte as it was but for those at the addresses its form stores to, computed from
the state before it: what an address reads as (a device apart), and every stored byte, those in a bank not selected as
well; all of memory where it stores nothing or only to ROM (R59, R65, R74). -/
def Obligations.MemoryFrame : Prop :=
  ∀ (i : Instr) (s t : State), s.mem.wf s.romBanks = true → exec i s = .next t →
    (∀ a : Word, (∀ g off, s.target a ≠ .device g off) → (∀ b ∈ (effectForm i).stores s, s.target b ≠ s.target a) →
      t.byteAt a = s.byteAt a) ∧
    (∀ p : Loc, (∀ b ∈ (effectForm i).stores s, ∀ perm, s.target b ≠ .cell p perm) → t.mem.read p = s.mem.read p) ∧
    ((∀ b ∈ (effectForm i).stores s, (resolve b).permission = .readOnly) → t.mem = s.mem)

/-- R30, R33, R310, R327: what no instruction writes, and what only `DI`, `EI`, `RETI`, `HALT`, `STOP` write. -/
def Obligations.ControlFrame : Prop :=
  ∀ (i : Instr) (s t : State), exec i s = .next t →
    (t.wramSlot1 = s.wramSlot1 ∧ t.romSlot1 = s.romSlot1 ∧ t.eramBank = s.eramBank ∧ t.romBanks = s.romBanks ∧
      t.handlers = s.handlers ∧ t.interruptExt = s.interruptExt) ∧
    (s.interruptExt = false ∨ i ≠ .di ∧ i ≠ .reti → t.ime = s.ime) ∧
    (s.interruptExt = false ∨ i ≠ .di ∧ i ≠ .ei → t.eiPending = s.eiPending) ∧
    (i ≠ .halt ∧ (∀ n8, i ≠ .stop n8) → t.halted = s.halted) ∧
    (s.noDevice = true → t.extCalls = s.extCalls)

/-- R303, R307 item 6, R355: an instruction other than the illegal ones (and `HALT`, `STOP` in the base core) completes,
at a cost of 1 to 6, where every byte its form accesses can be reached; otherwise the first access that cannot, in the
order of the pseudocode, is the fatal condition. -/
def Obligations.CompletesOrFirstFault : Prop :=
  ∀ (i : Instr) (s : State), (∀ k, formOf i ≠ .illegal k) →
    (s.interruptExt = true ∨ formOf i ≠ .halt ∧ ∀ n8, formOf i ≠ .stop n8) →
    (((effectForm i).accesses s).all (fun x => s.accessible x.1) = true →
      ∃ t, exec i s = .next t ∧ 1 ≤ t.cycles ∧ t.cycles ≤ 6) ∧
    ∀ x, ((effectForm i).accesses s).find? (fun x => !s.accessible x.1) = some x →
      exec i s = .fault (accessFault x.1 x.2)

/-! ### The step -/

/-- R94 in the base core: where the bytes at pc can be read and are those of a well-formed instruction, the step is
`exec` of it in the state after those reads with pc past it. -/
def Obligations.StepRunsDecodedInstruction : Prop :=
  ∀ (s : State) (i : Instr), i.wf = true → s.interruptExt = false →
    s.bytesReady s.pc (encode i).length = true → s.bytesFrom s.pc (encode i).length = encode i →
    step s = exec i { s.afterBytes s.pc (encode i).length with pc := s.pc + BitVec.ofNat 16 (encode i).length }

/-- R324 with the extension, where no interrupt is taken: the two reads of the check, then the instruction as in R94
with `halted` and `ei_pending` cleared, then `ime` where an `EI` came before and this is not `DI`. -/
def Obligations.StepRunsDecodedInstructionExtension : Prop :=
  ∀ (s s1 : State) (i : Instr) (pending : Byte), i.wf = true → s.interruptExt = true →
    s.accessible 0xFFFF#16 = true → s.accessible 0xFF0F#16 = true →
    pending = s.byteAt 0xFFFF#16 &&& (s.noteRead 0xFFFF#16).byteAt 0xFF0F#16 &&& 0x1F#8 →
    s1 = { (s.noteRead 0xFFFF#16).noteRead 0xFF0F#16 with halted := false, eiPending := false } →
    s.halted = false ∨ pending ≠ 0#8 → s.ime = false ∨ pending = 0#8 →
    s1.bytesReady s.pc (encode i).length = true → s1.bytesFrom s.pc (encode i).length = encode i →
    step s = settleEi s.eiPending i
      (exec i { s1.afterBytes s.pc (encode i).length with pc := s.pc + BitVec.ofNat 16 (encode i).length })

/-- R94, R304, R305, R307 items 1 to 5 in the base core: the order of the checks of the fetch; the illegal and the
unimplemented opcode are reported at pc before any further byte is read. -/
def Obligations.FetchFaultsInOrder : Prop :=
  ∀ (s : State) (op : Byte), s.interruptExt = false → op = s.byteAt s.pc →
    (s.accessible s.pc = false → step s = .fault (accessFault s.pc .read)) ∧
    (s.accessible s.pc = true →
      (op ∈ [0xD3#8, 0xDB#8, 0xDD#8, 0xE3#8, 0xE4#8, 0xEB#8, 0xEC#8, 0xED#8, 0xF4#8, 0xFC#8, 0xFD#8] →
        step s = .fault (.invalidOpcode op s.pc)) ∧
      (op = 0x76#8 ∨ op = 0x10#8 → step s = .fault (.unimplementedInstruction op s.pc)) ∧
      (op ≠ 0x10#8 → 2 ≤ lengthOf op → s.accessible (s.pc + 1#16) = false →
        step s = .fault (accessFault (s.pc + 1#16) .read)) ∧
      (lengthOf op = 3 → s.accessible (s.pc + 1#16) = true → s.accessible (s.pc + 2#16) = false →
        step s = .fault (accessFault (s.pc + 2#16) .read)))

/-- R304, R305: the two kinds are raised by no other opcode, and never by another address than pc. -/
def Obligations.OpcodeFaultsOnlyThere : Prop :=
  ∀ (s : State) (op : Byte) (a : Word),
    (step s = .fault (.invalidOpcode op a) → a = s.pc ∧
      op ∈ [0xD3#8, 0xDB#8, 0xDD#8, 0xE3#8, 0xE4#8, 0xEB#8, 0xEC#8, 0xED#8, 0xF4#8, 0xFC#8, 0xFD#8]) ∧
    (step s = .fault (.unimplementedInstruction op a) → a = s.pc ∧ s.interruptExt = false ∧ (op = 0x76#8 ∨ op = 0x10#8))

/-- R323, R324, R328: taking an interrupt: the lowest-numbered source both pending and enabled; `ime` and its `IF` bit
are cleared, pc is pushed, pc becomes the vector, 5 cycles; nothing else changes. -/
def Obligations.InterruptDispatch : Prop :=
  ∀ (s s1 s2 : State) (pending : Byte) (n : Nat), s.interruptExt = true → s.ime = true →
    s.accessible 0xFFFF#16 = true → s.accessible 0xFF0F#16 = true →
    pending = s.byteAt 0xFFFF#16 &&& (s.noteRead 0xFFFF#16).byteAt 0xFF0F#16 &&& 0x1F#8 →
    n < 5 → pending.getLsbD n = true → (∀ k < n, pending.getLsbD k = false) →
    s1 = (s.noteRead 0xFFFF#16).noteRead 0xFF0F#16 →
    s2 = (s1.noteRead 0xFF0F#16).store 0xFF0F#16 (s1.byteAt 0xFF0F#16 &&& ~~~(1#8 <<< n)) →
    s.wordReady (s.sp - 2#16) = true →
    step s = .next { s2.storeWord (s.sp - 2#16) s.pc with
      ime := false, halted := false, sp := s.sp - 2#16, pc := 0x0040#16 + BitVec.ofNat 16 (8 * n), cycles := 5 }

/-- R324, R325: while halted with nothing pending and enabled, a step idles for one cycle and changes nothing but what a
device sees of the two reads. -/
def Obligations.HaltedIdles : Prop :=
  ∀ s : State, s.interruptExt = true → s.halted = true →
    s.accessible 0xFFFF#16 = true → s.accessible 0xFF0F#16 = true →
    s.byteAt 0xFFFF#16 &&& (s.noteRead 0xFFFF#16).byteAt 0xFF0F#16 &&& 0x1F#8 = 0#8 →
    step s = .next { (s.noteRead 0xFFFF#16).noteRead 0xFF0F#16 with cycles := 1 }

/-- R327: an `EI` lets `ime` become 1 only after the instruction that follows it has completed, and not where that is
`DI`; an instruction that neither follows an `EI` nor is `RETI` leaves no new `ime`. -/
def Obligations.EiTakesEffectAfterNextInstruction : Prop :=
  ∀ (s t : State) (i : Instr), s.interruptExt = true →
    settleEi s.eiPending i (exec i { s with eiPending := false }) = .next t →
    (i = .ei → s.eiPending = false → t.ime = s.ime ∧ t.eiPending = true) ∧
    (i = .di → t.ime = false ∧ t.eiPending = false) ∧
    (i ≠ .di → s.eiPending = true → t.ime = true) ∧
    (i ≠ .di → i ≠ .reti → s.eiPending = false → t.ime = s.ime)

/-! ### The machine as a whole -/

/-- Every step keeps a legal state legal: memory canonical and in its buffers, F bits 3:0 zero, the bank selectors in
range, no interrupt state in the base core (R28, R33, R40). -/
def Obligations.StepKeepsInvariant : Prop :=
  ∀ s t : State, s.Inv → step s = .next t → t.Inv

/-- The state right after reset is legal, and holds what R341, R344 and R345 give it. The registers, F bits 7:4 and the
zero image of two banks are the model's choice (log entries 1, 2, 3); nothing is said of them but that they are legal. -/
def Obligations.ResetIsLegal : Prop :=
  State.reset.Inv ∧ State.reset.pc = 0x0100#16 ∧ State.reset.f.toNat % 16 = 0 ∧
  State.reset.wramSlot1 = 1 ∧ State.reset.romSlot1 = 1 ∧ State.reset.eramBank = 0 ∧
  State.reset.handlers = Handlers.none ∧ State.reset.interruptExt = false ∧
  State.reset.ime = false ∧ State.reset.halted = false ∧ State.reset.eiPending = false

/-- R340 to R348: construction answers a state exactly where the image has at least 0x8000 bytes, whatever they are (the
header bytes 0x0100 to 0x014F among them: R347, R348), the working-RAM bank is legal and the given buffers are canonical.
That state is legal and holds the image byte for byte, the launch arguments in the registers and buffers, and the bank
selectors and the interrupt state of R344 and R345. That whole banks of the image are kept is the model's reading of R5
(log entry 20, DEDUCED), and that the `IE` byte is 0x00 whatever buffers are given, of R321 (log entry 21, DEDUCED). -/
def Obligations.ConstructionGivesLegalState : Prop :=
  ∀ x : Launch,
    ((∃ s, State.init x = some s) ↔ 0x8000 ≤ x.image.length ∧ 1 ≤ x.wramSlot1.val ∧
      { x.buffers with rom := [], ie := [] }.wf (x.image.length / 0x4000) = true) ∧
    ∀ s : State, State.init x = some s →
      s.Inv ∧ s.pc = x.pc ∧ s.sp = x.sp ∧ (∀ n, n < 4 → s.f.getLsbD n = false) ∧
      (∀ n, n < 4 → s.f.getLsbD (4 + n) = x.fHigh.getLsbD n) ∧
      s.reg .a = x.a ∧ s.reg .b = x.b ∧ s.reg .c = x.c ∧ s.reg .d = x.d ∧ s.reg .e = x.e ∧ s.reg .h = x.h ∧
      s.reg .l = x.l ∧ s.wramSlot1 = x.wramSlot1 ∧ s.romSlot1 = 1 ∧ s.eramBank = 0 ∧
      s.romBanks = x.image.length / 0x4000 ∧ s.handlers = x.handlers ∧ s.interruptExt = x.interruptExt ∧
      s.ime = false ∧ s.halted = false ∧ s.eiPending = false ∧
      (∀ (k : Nat) (hk : k < x.image.length / 0x4000 * 0x4000),
        s.mem.read ⟨.rom, k⟩ = x.image[k]'(Nat.lt_of_lt_of_le hk (Nat.div_mul_le_self _ _))) ∧
      (∀ n : Nat, s.mem.read ⟨.ie, n⟩ = 0x00#8) ∧
      ∀ p : Loc, p.buf ≠ .rom → p.buf ≠ .ie → s.mem.read p = x.buffers.read p

/-- R33, R59, R5: no step changes a byte of the image, a bank selector, a handler or the presence of the extension; in
the base core none changes `ime`, `halted` or `ei_pending` (R310). -/
def Obligations.StepKeepsImageAndWiring : Prop :=
  ∀ s t : State, step s = .next t →
    (∀ k : Nat, t.mem.read ⟨.rom, k⟩ = s.mem.read ⟨.rom, k⟩) ∧
    t.wramSlot1 = s.wramSlot1 ∧ t.romSlot1 = s.romSlot1 ∧ t.eramBank = s.eramBank ∧ t.romBanks = s.romBanks ∧
    t.handlers = s.handlers ∧ t.interruptExt = s.interruptExt ∧
    (s.interruptExt = false → t.ime = s.ime ∧ t.halted = s.halted ∧ t.eiPending = s.eiPending)

/-- R308, R309, R349: a run of no steps is the state itself at no cost; a completed step goes on with the rest of the run
from the next state, its cycles added; a fatal condition ends the run with the cycles of the completed steps, and none of
its own. So a run of n + m steps is a run of n, continued for m where it has not stopped, and a run is never refused. -/
def Obligations.RunStopsAtFirstFault : Prop :=
  ∀ (s : State) (n m : Nat),
    (run s 0 = .ran s 0 ∧ ∀ c, runFrom c s 0 = .ran s c) ∧
    (∀ t, step s = .next t →
      run s (n + 1) = runFrom t.cycles t n ∧ ∀ c, runFrom c s (n + 1) = runFrom (c + t.cycles) t n) ∧
    (∀ k, step s = .fault k → run s (n + 1) = .stopped k 0 ∧ ∀ c, runFrom c s (n + 1) = .stopped k c) ∧
    (∀ t total, run s n = .ran t total → run s (n + m) = runFrom total t m) ∧
    (∀ k total, run s n = .stopped k total → run s (n + m) = .stopped k total) ∧
    (∀ r, run s n ≠ .refused r)

/-- R315, R316: at any address whose bytes can be read, `mnemonic` gives the text of the instruction that those bytes
decode to, the one that a step there runs, and the state after those reads; of that state only what a device sees of them
differs; it fails only where a byte of it cannot be read. -/
def Obligations.DisassemblyAgrees : Prop :=
  ∀ (s : State) (a : Word),
    (∀ i : Instr, i.wf = true → s.bytesReady a (encode i).length = true → s.bytesFrom a (encode i).length = encode i →
      mnemonic s a = .ok (textOf a i, s.afterBytes a (encode i).length)) ∧
    (∀ (text : String) (t : State), mnemonic s a = .ok (text, t) →
      t = { s with extCalls := t.extCalls } ∧ (s.noDevice = true → t = s)) ∧
    ∀ k : Fault, mnemonic s a = .error k → ∃ b, s.accessible b = false ∧ k = accessFault b .read ∧
      (b = a ∨ b = a + 1#16 ∨ b = a + 2#16)
end

