-- ==== Sys2Proof/Laws/Bits.lean ====
section
/-! SUPPORT. Halves of words, and what the flag computations leave in F (spec 10_state.md R22, R28, R29). -/

namespace Sys2Proof.Machine

@[simp] theorem joinBytes_hi_lo (w : Word) : joinBytes (hiByte w) (loByte w) = w := by
  unfold joinBytes hiByte loByte
  apply BitVec.eq_of_toNat_eq
  have h := w.isLt
  simp only [BitVec.toNat_append, BitVec.extractLsb'_toNat, Nat.shiftRight_zero]
  rw [← Nat.shiftLeft_add_eq_or_of_lt (by omega), Nat.shiftLeft_eq, Nat.shiftRight_eq_div_pow]
  omega

@[simp] theorem hiByte_joinBytes (hi lo : Byte) : hiByte (joinBytes hi lo) = hi := by
  unfold joinBytes hiByte
  ext i h; rw [BitVec.getElem_extractLsb', BitVec.getLsbD_append]; simp [h]

@[simp] theorem loByte_joinBytes (hi lo : Byte) : loByte (joinBytes hi lo) = lo := by
  unfold joinBytes loByte
  ext i h; rw [BitVec.getElem_extractLsb', BitVec.getLsbD_append]; simp [h]

@[simp] theorem flagZ_packFlags (z n h c : Bool) : flagZ (packFlags z n h c) = z := by
  revert z n h c; decide

@[simp] theorem flagN_packFlags (z n h c : Bool) : flagN (packFlags z n h c) = n := by
  revert z n h c; decide

@[simp] theorem flagH_packFlags (z n h c : Bool) : flagH (packFlags z n h c) = h := by
  revert z n h c; decide

@[simp] theorem flagC_packFlags (z n h c : Bool) : flagC (packFlags z n h c) = c := by
  revert z n h c; decide

@[simp] theorem packFlags_low (z n h c : Bool) : (packFlags z n h c).toNat % 16 = 0 := by
  revert z n h c; decide

/-- The flags that `packFlags` packs. -/
theorem flagsAre_packFlags (z n h c : Bool) : flagsAre (packFlags z n h c) z n h c := by simp [flagsAre]

/-- The flags that `setFlags` leaves. -/
theorem flagsAre_setFlags (f : Byte) (z n h c : Option Bool) :
    flagsAre (setFlags f z n h c) (z.getD (flagZ f)) (n.getD (flagN f)) (h.getD (flagH f)) (c.getD (flagC f)) := by
  simp [flagsAre, setFlags]

@[simp] theorem maskF_low (v : Byte) : (maskF v).toNat % 16 = 0 := by revert v; decide

theorem maskF_eq_iff (v : Byte) : maskF v = v ↔ v.toNat % 16 = 0 := by revert v; decide

end Sys2Proof.Machine
end

