-- ==== Sys2Proof/Laws/State.lean ====
section
/-! SUPPORT. One lemma per field per update, all `@[simp]`: later proofs never unfold a record update. -/

namespace Sys2Proof.Machine

/-! ### `setReg` -/

@[simp] theorem reg_setReg (s : State) (r q : Reg8) (v : Byte) :
    (s.setReg r v).reg q = if q = r then v else s.reg q := by cases r <;> cases q <;> rfl

@[simp] theorem setReg_f (s : State) (r : Reg8) (v : Byte) : (s.setReg r v).f = s.f := by cases r <;> rfl

@[simp] theorem setReg_sp (s : State) (r : Reg8) (v : Byte) : (s.setReg r v).sp = s.sp := by cases r <;> rfl

@[simp] theorem setReg_pc (s : State) (r : Reg8) (v : Byte) : (s.setReg r v).pc = s.pc := by cases r <;> rfl

@[simp] theorem setReg_ime (s : State) (r : Reg8) (v : Byte) : (s.setReg r v).ime = s.ime := by cases r <;> rfl

@[simp] theorem setReg_halted (s : State) (r : Reg8) (v : Byte) : (s.setReg r v).halted = s.halted := by cases r <;> rfl

@[simp] theorem setReg_eiPending (s : State) (r : Reg8) (v : Byte) : (s.setReg r v).eiPending = s.eiPending := by cases r <;> rfl

@[simp] theorem setReg_wramSlot1 (s : State) (r : Reg8) (v : Byte) : (s.setReg r v).wramSlot1 = s.wramSlot1 := by cases r <;> rfl

@[simp] theorem setReg_romSlot1 (s : State) (r : Reg8) (v : Byte) : (s.setReg r v).romSlot1 = s.romSlot1 := by cases r <;> rfl

@[simp] theorem setReg_eramBank (s : State) (r : Reg8) (v : Byte) : (s.setReg r v).eramBank = s.eramBank := by cases r <;> rfl

@[simp] theorem setReg_romBanks (s : State) (r : Reg8) (v : Byte) : (s.setReg r v).romBanks = s.romBanks := by cases r <;> rfl

@[simp] theorem setReg_mem (s : State) (r : Reg8) (v : Byte) : (s.setReg r v).mem = s.mem := by cases r <;> rfl

@[simp] theorem setReg_handlers (s : State) (r : Reg8) (v : Byte) : (s.setReg r v).handlers = s.handlers := by cases r <;> rfl

@[simp] theorem setReg_interruptExt (s : State) (r : Reg8) (v : Byte) : (s.setReg r v).interruptExt = s.interruptExt := by cases r <;> rfl

@[simp] theorem setReg_extCalls (s : State) (r : Reg8) (v : Byte) : (s.setReg r v).extCalls = s.extCalls := by cases r <;> rfl

@[simp] theorem setReg_cycles (s : State) (r : Reg8) (v : Byte) : (s.setReg r v).cycles = s.cycles := by cases r <;> rfl

@[simp] theorem setReg_self (s : State) (r : Reg8) : s.setReg r (s.reg r) = s := by cases r <;> rfl

/-! ### `setHl`, `setPair`, `setStackPair`, `jump` -/

@[simp] theorem setHl_a (s : State) (w : Word) : (s.setHl w).a = s.a := rfl

@[simp] theorem setHl_b (s : State) (w : Word) : (s.setHl w).b = s.b := rfl

@[simp] theorem setHl_c (s : State) (w : Word) : (s.setHl w).c = s.c := rfl

@[simp] theorem setHl_d (s : State) (w : Word) : (s.setHl w).d = s.d := rfl

@[simp] theorem setHl_e (s : State) (w : Word) : (s.setHl w).e = s.e := rfl

@[simp] theorem setHl_f (s : State) (w : Word) : (s.setHl w).f = s.f := rfl

@[simp] theorem setHl_sp (s : State) (w : Word) : (s.setHl w).sp = s.sp := rfl

@[simp] theorem setHl_pc (s : State) (w : Word) : (s.setHl w).pc = s.pc := rfl

@[simp] theorem setHl_ime (s : State) (w : Word) : (s.setHl w).ime = s.ime := rfl

@[simp] theorem setHl_halted (s : State) (w : Word) : (s.setHl w).halted = s.halted := rfl

@[simp] theorem setHl_eiPending (s : State) (w : Word) : (s.setHl w).eiPending = s.eiPending := rfl

@[simp] theorem setHl_wramSlot1 (s : State) (w : Word) : (s.setHl w).wramSlot1 = s.wramSlot1 := rfl

@[simp] theorem setHl_romSlot1 (s : State) (w : Word) : (s.setHl w).romSlot1 = s.romSlot1 := rfl

@[simp] theorem setHl_eramBank (s : State) (w : Word) : (s.setHl w).eramBank = s.eramBank := rfl

@[simp] theorem setHl_romBanks (s : State) (w : Word) : (s.setHl w).romBanks = s.romBanks := rfl

@[simp] theorem setHl_mem (s : State) (w : Word) : (s.setHl w).mem = s.mem := rfl

@[simp] theorem setHl_handlers (s : State) (w : Word) : (s.setHl w).handlers = s.handlers := rfl

@[simp] theorem setHl_interruptExt (s : State) (w : Word) : (s.setHl w).interruptExt = s.interruptExt := rfl

@[simp] theorem setHl_extCalls (s : State) (w : Word) : (s.setHl w).extCalls = s.extCalls := rfl

@[simp] theorem setHl_cycles (s : State) (w : Word) : (s.setHl w).cycles = s.cycles := rfl

@[simp] theorem setHl_h (s : State) (w : Word) : (s.setHl w).h = hiByte w := rfl

@[simp] theorem setHl_l (s : State) (w : Word) : (s.setHl w).l = loByte w := rfl

@[simp] theorem setPair_f (s : State) (p : Pair) (w : Word) : (s.setPair p w).f = s.f := by cases p <;> rfl

@[simp] theorem setPair_pc (s : State) (p : Pair) (w : Word) : (s.setPair p w).pc = s.pc := by cases p <;> rfl

@[simp] theorem setPair_ime (s : State) (p : Pair) (w : Word) : (s.setPair p w).ime = s.ime := by cases p <;> rfl

@[simp] theorem setPair_halted (s : State) (p : Pair) (w : Word) : (s.setPair p w).halted = s.halted := by cases p <;> rfl

@[simp] theorem setPair_eiPending (s : State) (p : Pair) (w : Word) : (s.setPair p w).eiPending = s.eiPending := by cases p <;> rfl

@[simp] theorem setPair_wramSlot1 (s : State) (p : Pair) (w : Word) : (s.setPair p w).wramSlot1 = s.wramSlot1 := by cases p <;> rfl

@[simp] theorem setPair_romSlot1 (s : State) (p : Pair) (w : Word) : (s.setPair p w).romSlot1 = s.romSlot1 := by cases p <;> rfl

@[simp] theorem setPair_eramBank (s : State) (p : Pair) (w : Word) : (s.setPair p w).eramBank = s.eramBank := by cases p <;> rfl

@[simp] theorem setPair_romBanks (s : State) (p : Pair) (w : Word) : (s.setPair p w).romBanks = s.romBanks := by cases p <;> rfl

@[simp] theorem setPair_mem (s : State) (p : Pair) (w : Word) : (s.setPair p w).mem = s.mem := by cases p <;> rfl

@[simp] theorem setPair_handlers (s : State) (p : Pair) (w : Word) : (s.setPair p w).handlers = s.handlers := by cases p <;> rfl

@[simp] theorem setPair_interruptExt (s : State) (p : Pair) (w : Word) : (s.setPair p w).interruptExt = s.interruptExt := by cases p <;> rfl

@[simp] theorem setPair_extCalls (s : State) (p : Pair) (w : Word) : (s.setPair p w).extCalls = s.extCalls := by cases p <;> rfl

@[simp] theorem setPair_cycles (s : State) (p : Pair) (w : Word) : (s.setPair p w).cycles = s.cycles := by cases p <;> rfl

@[simp] theorem setStackPair_sp (s : State) (p : StackPair) (w : Word) : (s.setStackPair p w).sp = s.sp := by
  cases p <;> rfl

@[simp] theorem setStackPair_pc (s : State) (p : StackPair) (w : Word) : (s.setStackPair p w).pc = s.pc := by
  cases p <;> rfl

@[simp] theorem setStackPair_ime (s : State) (p : StackPair) (w : Word) : (s.setStackPair p w).ime = s.ime := by
  cases p <;> rfl

@[simp] theorem setStackPair_halted (s : State) (p : StackPair) (w : Word) : (s.setStackPair p w).halted = s.halted := by
  cases p <;> rfl

@[simp] theorem setStackPair_eiPending (s : State) (p : StackPair) (w : Word) : (s.setStackPair p w).eiPending = s.eiPending := by
  cases p <;> rfl

@[simp] theorem setStackPair_wramSlot1 (s : State) (p : StackPair) (w : Word) : (s.setStackPair p w).wramSlot1 = s.wramSlot1 := by
  cases p <;> rfl

@[simp] theorem setStackPair_romSlot1 (s : State) (p : StackPair) (w : Word) : (s.setStackPair p w).romSlot1 = s.romSlot1 := by
  cases p <;> rfl

@[simp] theorem setStackPair_eramBank (s : State) (p : StackPair) (w : Word) : (s.setStackPair p w).eramBank = s.eramBank := by
  cases p <;> rfl

@[simp] theorem setStackPair_romBanks (s : State) (p : StackPair) (w : Word) : (s.setStackPair p w).romBanks = s.romBanks := by
  cases p <;> rfl

@[simp] theorem setStackPair_mem (s : State) (p : StackPair) (w : Word) : (s.setStackPair p w).mem = s.mem := by
  cases p <;> rfl

@[simp] theorem setStackPair_handlers (s : State) (p : StackPair) (w : Word) : (s.setStackPair p w).handlers = s.handlers := by
  cases p <;> rfl

@[simp] theorem setStackPair_interruptExt (s : State) (p : StackPair) (w : Word) : (s.setStackPair p w).interruptExt = s.interruptExt := by
  cases p <;> rfl

@[simp] theorem setStackPair_extCalls (s : State) (p : StackPair) (w : Word) : (s.setStackPair p w).extCalls = s.extCalls := by
  cases p <;> rfl

@[simp] theorem setStackPair_cycles (s : State) (p : StackPair) (w : Word) : (s.setStackPair p w).cycles = s.cycles := by
  cases p <;> rfl

@[simp] theorem jump_a (s : State) (w : Word) : (s.jump w).a = s.a := rfl

@[simp] theorem jump_b (s : State) (w : Word) : (s.jump w).b = s.b := rfl

@[simp] theorem jump_c (s : State) (w : Word) : (s.jump w).c = s.c := rfl

@[simp] theorem jump_d (s : State) (w : Word) : (s.jump w).d = s.d := rfl

@[simp] theorem jump_e (s : State) (w : Word) : (s.jump w).e = s.e := rfl

@[simp] theorem jump_h (s : State) (w : Word) : (s.jump w).h = s.h := rfl

@[simp] theorem jump_l (s : State) (w : Word) : (s.jump w).l = s.l := rfl

@[simp] theorem jump_f (s : State) (w : Word) : (s.jump w).f = s.f := rfl

@[simp] theorem jump_sp (s : State) (w : Word) : (s.jump w).sp = s.sp := rfl

@[simp] theorem jump_ime (s : State) (w : Word) : (s.jump w).ime = s.ime := rfl

@[simp] theorem jump_halted (s : State) (w : Word) : (s.jump w).halted = s.halted := rfl

@[simp] theorem jump_eiPending (s : State) (w : Word) : (s.jump w).eiPending = s.eiPending := rfl

@[simp] theorem jump_wramSlot1 (s : State) (w : Word) : (s.jump w).wramSlot1 = s.wramSlot1 := rfl

@[simp] theorem jump_romSlot1 (s : State) (w : Word) : (s.jump w).romSlot1 = s.romSlot1 := rfl

@[simp] theorem jump_eramBank (s : State) (w : Word) : (s.jump w).eramBank = s.eramBank := rfl

@[simp] theorem jump_romBanks (s : State) (w : Word) : (s.jump w).romBanks = s.romBanks := rfl

@[simp] theorem jump_mem (s : State) (w : Word) : (s.jump w).mem = s.mem := rfl

@[simp] theorem jump_handlers (s : State) (w : Word) : (s.jump w).handlers = s.handlers := rfl

@[simp] theorem jump_interruptExt (s : State) (w : Word) : (s.jump w).interruptExt = s.interruptExt := rfl

@[simp] theorem jump_extCalls (s : State) (w : Word) : (s.jump w).extCalls = s.extCalls := rfl

@[simp] theorem jump_cycles (s : State) (w : Word) : (s.jump w).cycles = s.cycles := rfl

@[simp] theorem jump_pc (s : State) (w : Word) : (s.jump w).pc = w := rfl

/-! ### `noteRead` and `store`: only the call record, only the call record and memory -/

@[simp] theorem noteRead_a (s : State) (a : Word) : (s.noteRead a).a = s.a := by
  unfold State.noteRead; split <;> rfl

@[simp] theorem noteRead_b (s : State) (a : Word) : (s.noteRead a).b = s.b := by
  unfold State.noteRead; split <;> rfl

@[simp] theorem noteRead_c (s : State) (a : Word) : (s.noteRead a).c = s.c := by
  unfold State.noteRead; split <;> rfl

@[simp] theorem noteRead_d (s : State) (a : Word) : (s.noteRead a).d = s.d := by
  unfold State.noteRead; split <;> rfl

@[simp] theorem noteRead_e (s : State) (a : Word) : (s.noteRead a).e = s.e := by
  unfold State.noteRead; split <;> rfl

@[simp] theorem noteRead_h (s : State) (a : Word) : (s.noteRead a).h = s.h := by
  unfold State.noteRead; split <;> rfl

@[simp] theorem noteRead_l (s : State) (a : Word) : (s.noteRead a).l = s.l := by
  unfold State.noteRead; split <;> rfl

@[simp] theorem noteRead_f (s : State) (a : Word) : (s.noteRead a).f = s.f := by
  unfold State.noteRead; split <;> rfl

@[simp] theorem noteRead_sp (s : State) (a : Word) : (s.noteRead a).sp = s.sp := by
  unfold State.noteRead; split <;> rfl

@[simp] theorem noteRead_pc (s : State) (a : Word) : (s.noteRead a).pc = s.pc := by
  unfold State.noteRead; split <;> rfl

@[simp] theorem noteRead_ime (s : State) (a : Word) : (s.noteRead a).ime = s.ime := by
  unfold State.noteRead; split <;> rfl

@[simp] theorem noteRead_halted (s : State) (a : Word) : (s.noteRead a).halted = s.halted := by
  unfold State.noteRead; split <;> rfl

@[simp] theorem noteRead_eiPending (s : State) (a : Word) : (s.noteRead a).eiPending = s.eiPending := by
  unfold State.noteRead; split <;> rfl

@[simp] theorem noteRead_wramSlot1 (s : State) (a : Word) : (s.noteRead a).wramSlot1 = s.wramSlot1 := by
  unfold State.noteRead; split <;> rfl

@[simp] theorem noteRead_romSlot1 (s : State) (a : Word) : (s.noteRead a).romSlot1 = s.romSlot1 := by
  unfold State.noteRead; split <;> rfl

@[simp] theorem noteRead_eramBank (s : State) (a : Word) : (s.noteRead a).eramBank = s.eramBank := by
  unfold State.noteRead; split <;> rfl

@[simp] theorem noteRead_romBanks (s : State) (a : Word) : (s.noteRead a).romBanks = s.romBanks := by
  unfold State.noteRead; split <;> rfl

@[simp] theorem noteRead_mem (s : State) (a : Word) : (s.noteRead a).mem = s.mem := by
  unfold State.noteRead; split <;> rfl

@[simp] theorem noteRead_handlers (s : State) (a : Word) : (s.noteRead a).handlers = s.handlers := by
  unfold State.noteRead; split <;> rfl

@[simp] theorem noteRead_interruptExt (s : State) (a : Word) : (s.noteRead a).interruptExt = s.interruptExt := by
  unfold State.noteRead; split <;> rfl

@[simp] theorem noteRead_cycles (s : State) (a : Word) : (s.noteRead a).cycles = s.cycles := by
  unfold State.noteRead; split <;> rfl

@[simp] theorem noteRead_reg (s : State) (a : Word) (r : Reg8) : (s.noteRead a).reg r = s.reg r := by
  unfold State.noteRead; split <;> rfl

@[simp] theorem store_a (s : State) (a : Word) (v : Byte) : (s.store a v).a = s.a := by
  unfold State.store; split <;> rfl

@[simp] theorem store_b (s : State) (a : Word) (v : Byte) : (s.store a v).b = s.b := by
  unfold State.store; split <;> rfl

@[simp] theorem store_c (s : State) (a : Word) (v : Byte) : (s.store a v).c = s.c := by
  unfold State.store; split <;> rfl

@[simp] theorem store_d (s : State) (a : Word) (v : Byte) : (s.store a v).d = s.d := by
  unfold State.store; split <;> rfl

@[simp] theorem store_e (s : State) (a : Word) (v : Byte) : (s.store a v).e = s.e := by
  unfold State.store; split <;> rfl

@[simp] theorem store_h (s : State) (a : Word) (v : Byte) : (s.store a v).h = s.h := by
  unfold State.store; split <;> rfl

@[simp] theorem store_l (s : State) (a : Word) (v : Byte) : (s.store a v).l = s.l := by
  unfold State.store; split <;> rfl

@[simp] theorem store_f (s : State) (a : Word) (v : Byte) : (s.store a v).f = s.f := by
  unfold State.store; split <;> rfl

@[simp] theorem store_sp (s : State) (a : Word) (v : Byte) : (s.store a v).sp = s.sp := by
  unfold State.store; split <;> rfl

@[simp] theorem store_pc (s : State) (a : Word) (v : Byte) : (s.store a v).pc = s.pc := by
  unfold State.store; split <;> rfl

@[simp] theorem store_ime (s : State) (a : Word) (v : Byte) : (s.store a v).ime = s.ime := by
  unfold State.store; split <;> rfl

@[simp] theorem store_halted (s : State) (a : Word) (v : Byte) : (s.store a v).halted = s.halted := by
  unfold State.store; split <;> rfl

@[simp] theorem store_eiPending (s : State) (a : Word) (v : Byte) : (s.store a v).eiPending = s.eiPending := by
  unfold State.store; split <;> rfl

@[simp] theorem store_wramSlot1 (s : State) (a : Word) (v : Byte) : (s.store a v).wramSlot1 = s.wramSlot1 := by
  unfold State.store; split <;> rfl

@[simp] theorem store_romSlot1 (s : State) (a : Word) (v : Byte) : (s.store a v).romSlot1 = s.romSlot1 := by
  unfold State.store; split <;> rfl

@[simp] theorem store_eramBank (s : State) (a : Word) (v : Byte) : (s.store a v).eramBank = s.eramBank := by
  unfold State.store; split <;> rfl

@[simp] theorem store_romBanks (s : State) (a : Word) (v : Byte) : (s.store a v).romBanks = s.romBanks := by
  unfold State.store; split <;> rfl

@[simp] theorem store_handlers (s : State) (a : Word) (v : Byte) : (s.store a v).handlers = s.handlers := by
  unfold State.store; split <;> rfl

@[simp] theorem store_interruptExt (s : State) (a : Word) (v : Byte) : (s.store a v).interruptExt = s.interruptExt := by
  unfold State.store; split <;> rfl

@[simp] theorem store_cycles (s : State) (a : Word) (v : Byte) : (s.store a v).cycles = s.cycles := by
  unfold State.store; split <;> rfl

@[simp] theorem store_reg (s : State) (a : Word) (v : Byte) (r : Reg8) : (s.store a v).reg r = s.reg r := by
  unfold State.store; split <;> rfl

@[simp] theorem noteRead_bc (s : State) (a : Word) : (s.noteRead a).bc = s.bc := by
  simp [State.bc]

@[simp] theorem noteRead_de (s : State) (a : Word) : (s.noteRead a).de = s.de := by
  simp [State.de]

@[simp] theorem noteRead_hl (s : State) (a : Word) : (s.noteRead a).hl = s.hl := by
  simp [State.hl]

@[simp] theorem noteRead_af (s : State) (a : Word) : (s.noteRead a).af = s.af := by
  simp [State.af]

@[simp] theorem store_bc (s : State) (a : Word) (v : Byte) : (s.store a v).bc = s.bc := by
  simp [State.bc]

@[simp] theorem store_de (s : State) (a : Word) (v : Byte) : (s.store a v).de = s.de := by
  simp [State.de]

@[simp] theorem store_hl (s : State) (a : Word) (v : Byte) : (s.store a v).hl = s.hl := by
  simp [State.hl]

@[simp] theorem store_af (s : State) (a : Word) (v : Byte) : (s.store a v).af = s.af := by
  simp [State.af]

end Sys2Proof.Machine
end

