-- ==== Sys2Proof/Laws/Memory.lean ====
section
/-! SUPPORT. The laws of stored bytes: read after write, and the canonical form (spec 20_memory.md R64, R65). -/

namespace Sys2Proof.Machine

/-! ### Cells -/

theorem cellsWf_mono {size lo lo' : Nat} (h : lo' ≤ lo) :
    ∀ {cs : List Host.Cell}, cellsWf size lo cs = true → cellsWf size lo' cs = true
  | [], _ => rfl
  | (k, v) :: rest, hw => by
    simp only [cellsWf, Bool.and_eq_true, decide_eq_true_eq] at hw ⊢
    exact ⟨⟨⟨by omega, hw.1.1.2⟩, hw.1.2⟩, hw.2⟩

/-- Below the first listed offset every byte is unlisted. -/
theorem cellsRead_below {size lo k : Nat} (hk : k < lo) :
    ∀ {cs : List Host.Cell}, cellsWf size lo cs = true → cellsRead cs k = Config.unlistedByte
  | [], _ => rfl
  | (j, v) :: rest, hw => by
    simp only [cellsWf, Bool.and_eq_true, decide_eq_true_eq] at hw
    have hne : j ≠ k := by omega
    simp only [cellsRead, if_neg hne]
    exact cellsRead_below (by omega) hw.2

/-- Reading anywhere after a write, in one equation. -/
theorem cellsRead_cellsWrite {size lo k j : Nat} {v : Byte} :
    ∀ {cs : List Host.Cell}, cellsWf size lo cs = true →
      cellsRead (cellsWrite cs k v) j = if j = k then v else cellsRead cs j
  | [], _ => by
    simp only [cellsWrite]
    split
    · rename_i hv; by_cases hj : j = k <;> simp [cellsRead, hj, hv]
    · by_cases hj : j = k
      · simp [cellsRead, hj]
      · simp [cellsRead, hj, Ne.symm hj]
  | (i, u) :: rest, hw => by
    simp only [cellsWf, Bool.and_eq_true, decide_eq_true_eq] at hw
    obtain ⟨⟨⟨h1, h2⟩, h3⟩, h4⟩ := hw
    have ih := cellsRead_cellsWrite (k := k) (j := j) (v := v) h4
    have hb : ∀ n, n ≤ i → cellsRead rest n = Config.unlistedByte := fun n hn =>
      cellsRead_below (by omega) h4
    simp only [cellsWrite]
    split
    · rename_i hk
      split
      · rename_i hv
        by_cases hj : j = k
        · have : i ≠ k := by omega
          subst hj; simp [cellsRead, this, hb _ (by omega : j ≤ i), hv]
        · simp [hj]
      · by_cases hj : j = k
        · simp [cellsRead, hj]
        · simp [cellsRead, hj, Ne.symm hj]
    · split
      · rename_i hk; subst hk
        split
        · rename_i hv
          by_cases hj : j = k
          · simp [hj, hb _ (Nat.le_refl k), hv]
          · simp [cellsRead, hj, Ne.symm hj]
        · by_cases hj : j = k
          · simp [cellsRead, hj]
          · simp [cellsRead, hj, Ne.symm hj]
      · rename_i hk1 hk2
        simp only [cellsRead, ih]
        by_cases hi : i = j
        · subst hi; simp [Ne.symm hk2]
        · simp [hi]

theorem cellsWf_cellsWrite {size k : Nat} {v : Byte} (hk : k < size) :
    ∀ {lo : Nat} {cs : List Host.Cell}, lo ≤ k → cellsWf size lo cs = true →
      cellsWf size lo (cellsWrite cs k v) = true
  | lo, [], hlo, _ => by
    simp only [cellsWrite]
    split
    · rfl
    · simp_all [cellsWf]
  | lo, (i, u) :: rest, hlo, hw => by
    have hw' := hw
    simp only [cellsWf, Bool.and_eq_true, decide_eq_true_eq] at hw
    obtain ⟨⟨⟨h1, h2⟩, h3⟩, h4⟩ := hw
    simp only [cellsWrite]
    split
    · rename_i hki
      split
      · exact hw'
      · simp only [cellsWf, Bool.and_eq_true, decide_eq_true_eq]
        exact ⟨⟨⟨hlo, hk⟩, by simp_all⟩, ⟨⟨⟨by omega, h2⟩, h3⟩, h4⟩⟩
    · split
      · rename_i hki; subst hki
        split
        · exact cellsWf_mono (by omega) h4
        · simp only [cellsWf, Bool.and_eq_true, decide_eq_true_eq]
          exact ⟨⟨⟨hlo, hk⟩, by simp_all⟩, h4⟩
      · simp only [cellsWf, Bool.and_eq_true, decide_eq_true_eq]
        exact ⟨⟨⟨h1, h2⟩, h3⟩, cellsWf_cellsWrite hk (by omega) h4⟩

/-- Two canonical lists that read alike are equal: equal memories are equal data. -/
theorem cells_ext {size lo : Nat} :
    ∀ {cs ds : List Host.Cell}, cellsWf size lo cs = true → cellsWf size lo ds = true →
      (∀ k, cellsRead cs k = cellsRead ds k) → cs = ds
  | [], [], _, _, _ => rfl
  | [], (j, u) :: rest, _, hd, h => by
    simp only [cellsWf, Bool.and_eq_true, decide_eq_true_eq] at hd
    have := h j
    simp only [cellsRead, if_true] at this
    simp [← this] at hd
  | (i, v) :: rest, [], hc, _, h => by
    simp only [cellsWf, Bool.and_eq_true, decide_eq_true_eq] at hc
    have := h i
    simp only [cellsRead, if_true] at this
    simp [this] at hc
  | (i, v) :: cs, (j, u) :: ds, hc, hd, h => by
    simp only [cellsWf, Bool.and_eq_true, decide_eq_true_eq] at hc hd
    obtain ⟨⟨⟨c1, c2⟩, c3⟩, c4⟩ := hc
    obtain ⟨⟨⟨d1, d2⟩, d3⟩, d4⟩ := hd
    have hij : i = j := by
      rcases Nat.lt_trichotomy i j with hl | he | hl
      · have := h i
        have hne : j ≠ i := by omega
        rw [show cellsRead ((i, v) :: cs) i = v by simp [cellsRead],
          show cellsRead ((j, u) :: ds) i = cellsRead ds i by simp [cellsRead, hne],
          cellsRead_below (by omega : i < j + 1) d4] at this
        simp [this] at c3
      · exact he
      · have := h j
        have hne : i ≠ j := by omega
        rw [show cellsRead ((j, u) :: ds) j = u by simp [cellsRead],
          show cellsRead ((i, v) :: cs) j = cellsRead cs j by simp [cellsRead, hne],
          cellsRead_below (by omega : j < i + 1) c4] at this
        simp [← this] at d3
    subst hij
    have hvu : v = u := by simpa [cellsRead] using h i
    subst hvu
    have : cs = ds := cells_ext c4 d4 fun k => by
      by_cases hk : i = k
      · subst hk
        rw [cellsRead_below (Nat.lt_succ_self i) c4, cellsRead_below (Nat.lt_succ_self i) d4]
      · simpa [cellsRead, hk] using h k
    rw [this]

/-- The bytes of a list laid out from `k`. -/
theorem cellsRead_cellsOfBytes :
    ∀ (vs : List Byte) (k j : Nat), cellsRead (cellsOfBytes k vs) (k + j) = vs.getD j Config.unlistedByte ∧
      (∀ i, i < k → cellsRead (cellsOfBytes k vs) i = Config.unlistedByte)
  | [], _, _ => ⟨by simp [cellsOfBytes, cellsRead], fun _ _ => rfl⟩
  | v :: rest, k, j => by
    have ih := cellsRead_cellsOfBytes rest (k + 1)
    constructor
    · simp only [cellsOfBytes]
      cases j with
      | zero =>
        split
        · rename_i hv; rw [Nat.add_zero k, (ih 0).2 k (Nat.lt_succ_self k)]; simp [hv]
        · simp [cellsRead]
      | succ n =>
        have hk : k + (n + 1) = k + 1 + n := by omega
        split
        · rw [hk, (ih n).1]; simp
        · have hne : ¬ k = k + (n + 1) := by omega
          simp only [cellsRead, if_neg hne]
          rw [hk, (ih n).1]; simp
    · intro i hi
      simp only [cellsOfBytes]
      split
      · exact (ih 0).2 i (by omega)
      · have hne : ¬ k = i := by omega
        simp only [cellsRead, if_neg hne]
        exact (ih 0).2 i (by omega)

theorem cellsOfBytes_replicate : ∀ (n k : Nat), cellsOfBytes k (List.replicate n Config.unlistedByte) = []
  | 0, _ => rfl
  | n + 1, k => by
    rw [List.replicate_succ, cellsOfBytes, if_pos rfl]
    exact cellsOfBytes_replicate n (k + 1)

/-! ### Memory -/

@[simp] theorem cells_setCells (m : Memory) (cs : List Host.Cell) (b c : Buffer) :
    (m.setCells cs b).cells c = if c = b then cs else m.cells c := by cases b <;> cases c <;> rfl

theorem wf_iff (m : Memory) (n : Nat) : m.wf n = true ↔ ∀ b, cellsWf (b.size n) 0 (m.cells b) = true := by
  constructor
  · intro h b
    have := List.all_eq_true.mp h b (by cases b <;> decide)
    exact this
  · intro h
    exact List.all_eq_true.mpr fun b _ => h b

/-- Read after write, at the same place and at any other. -/
theorem read_write {m : Memory} {n : Nat} (hw : m.wf n = true) (p q : Loc) (v : Byte) :
    (m.write p v).read q = if q = p then v else m.read q := by
  have hc := (wf_iff m n).mp hw p.buf
  unfold Memory.read Memory.write
  rw [cells_setCells]
  by_cases hb : q.buf = p.buf
  · rw [if_pos hb, cellsRead_cellsWrite hc]
    by_cases ho : q.off = p.off
    · have : q = p := by cases p; cases q; simp_all
      simp [this]
    · have : q ≠ p := fun h => ho (by rw [h])
      simp [this, ho, hb]
  · have : q ≠ p := fun h => hb (by rw [h])
    simp [this, hb]

/-- A write inside its buffer keeps the canonical form. -/
theorem wf_write {m : Memory} {n : Nat} (hw : m.wf n = true) (p : Loc) (v : Byte) (hp : p.off < p.buf.size n) :
    (m.write p v).wf n = true := by
  rw [wf_iff] at hw ⊢
  intro b
  unfold Memory.write
  rw [cells_setCells]
  split
  · rename_i hb; subst hb; exact cellsWf_cellsWrite hp (Nat.zero_le _) (hw p.buf)
  · exact hw b

theorem wf_empty (n : Nat) : Memory.empty.wf n = true := by rw [wf_iff]; intro b; cases b <;> rfl

/-- Memories in canonical form that read alike are equal. -/
theorem memory_ext {m k : Memory} {n : Nat} (hm : m.wf n = true) (hk : k.wf n = true)
    (h : ∀ p, m.read p = k.read p) : m = k := by
  rw [wf_iff] at hm hk
  have hb : ∀ b, m.cells b = k.cells b := fun b => cells_ext (hm b) (hk b) fun i => h { buf := b, off := i }
  cases m; cases k
  have h1 := hb .rom; have h2 := hb .tile0; have h3 := hb .tile1; have h4 := hb .map0; have h5 := hb .map1
  have h6 := hb .eram; have h7 := hb .wram; have h8 := hb .oam; have h9 := hb .unusable; have h10 := hb .io
  have h11 := hb .hram; have h12 := hb .ie
  simp only [Memory.cells] at *
  simp [*]

/-- A write leaves every other buffer alone. -/
@[simp] theorem cells_write (m : Memory) (p : Loc) (v : Byte) (b : Buffer) :
    (m.write p v).cells b = if b = p.buf then cellsWrite (m.cells p.buf) p.off v else m.cells b := by
  simp [Memory.write]

end Sys2Proof.Machine
end

