-- ==== Sys2Proof/Laws/Bus.lean ====
section
/-! SUPPORT. What each bus and stack operation can do, said once: it answers the view functions of Machine/View.lean
where every byte can be reached, and the fatal condition of the first byte that cannot (spec 20_memory.md R60 to R67). -/

namespace Sys2Proof.Machine

/-! ### What an address names depends on the configuration alone -/

/-- The part of a state that `resolve` and the routing of R55 and R60 look at. -/
def State.sameBus (s t : State) : Prop :=
  s.wramSlot1 = t.wramSlot1 ∧ s.romSlot1 = t.romSlot1 ∧ s.eramBank = t.eramBank ∧ s.handlers = t.handlers

theorem target_congr {s t : State} (h : s.sameBus t) (a : Word) : s.target a = t.target a := by
  obtain ⟨h1, h2, h3, h4⟩ := h
  unfold State.target targetOf
  rw [h1, h2, h3, h4]

theorem accessible_congr {s t : State} (h : s.sameBus t) (a : Word) : s.accessible a = t.accessible a := by
  unfold State.accessible; rw [target_congr h]

theorem wordReady_congr {s t : State} (h : s.sameBus t) (a : Word) : s.wordReady a = t.wordReady a := by
  unfold State.wordReady; rw [accessible_congr h, accessible_congr h]

theorem byteAt_congr {s t : State} (h : s.sameBus t) (hm : s.mem = t.mem) (hx : s.extCalls = t.extCalls) (a : Word) :
    s.byteAt a = t.byteAt a := by
  unfold State.byteAt; rw [target_congr h, hm, hx]

@[simp] theorem target_setReg (s : State) (r : Reg8) (v : Byte) (a : Word) : (s.setReg r v).target a = s.target a :=
  target_congr ⟨by simp, by simp, by simp, by simp⟩ a

@[simp] theorem target_noteRead (s : State) (b a : Word) : (s.noteRead b).target a = s.target a :=
  target_congr ⟨by simp, by simp, by simp, by simp⟩ a

@[simp] theorem target_store (s : State) (b : Word) (v : Byte) (a : Word) : (s.store b v).target a = s.target a :=
  target_congr ⟨by simp, by simp, by simp, by simp⟩ a

@[simp] theorem target_jump (s : State) (w a : Word) : (s.jump w).target a = s.target a := rfl

@[simp] theorem accessible_setReg (s : State) (r : Reg8) (v : Byte) (a : Word) :
    (s.setReg r v).accessible a = s.accessible a := by simp [State.accessible]

@[simp] theorem accessible_noteRead (s : State) (b a : Word) : (s.noteRead b).accessible a = s.accessible a := by
  simp [State.accessible]

@[simp] theorem accessible_store (s : State) (b : Word) (v : Byte) (a : Word) :
    (s.store b v).accessible a = s.accessible a := by simp [State.accessible]

@[simp] theorem accessible_jump (s : State) (w a : Word) : (s.jump w).accessible a = s.accessible a := rfl

/-- Only the region of the address itself can be unwired. -/
theorem target_unwired {s : State} {a : Word} {g : Region} (h : s.target a = .unwired g) : g = (resolve a).region := by
  unfold State.target targetOf at h
  revert h
  cases hr : (resolve a).region <;> simp only [reduceCtorEq, IsEmpty.forall_iff] <;>
    (unfold handlerTarget; split <;> simp_all [eq_comm]) <;> (split <;> simp_all)

/-! ### Bytes -/

/-- `read8` (R64). -/
theorem readByte_eq (s : State) (a : Word) :
    s.readByte a = if s.accessible a then .ok (s.byteAt a, s.noteRead a) else .error (accessFault a .read) := by
  unfold State.readByte State.accessible State.byteAt State.noteRead accessFault
  cases h : s.target a <;> simp
  exact target_unwired h

/-- `write8` (R65). -/
theorem writeByte_eq (s : State) (a : Word) (v : Byte) :
    s.writeByte a v = if s.accessible a then .ok (s.store a v) else .error (accessFault a .write) := by
  unfold State.writeByte State.accessible State.store accessFault
  cases h : s.target a with
  | cell p perm => cases perm <;> simp
  | unmapped => simp
  | device g off => simp
  | unwired g => simp; exact target_unwired h

theorem readByte_ok {s : State} {a : Word} (h : s.accessible a = true) :
    s.readByte a = .ok (s.byteAt a, s.noteRead a) := by rw [readByte_eq, if_pos h]

theorem writeByte_ok {s : State} {a : Word} (v : Byte) (h : s.accessible a = true) :
    s.writeByte a v = .ok (s.store a v) := by rw [writeByte_eq, if_pos h]

theorem readByte_error {s : State} {a : Word} (h : s.accessible a = false) :
    s.readByte a = .error (accessFault a .read) := by rw [readByte_eq, h]; rfl

theorem writeByte_error {s : State} {a : Word} (v : Byte) (h : s.accessible a = false) :
    s.writeByte a v = .error (accessFault a .write) := by rw [writeByte_eq, h]; rfl

/-! ### Words -/

/-- `read16LE` (R66, R307). -/
theorem readWord_eq (s : State) (a : Word) :
    s.readWord a = if s.wordReady a then .ok (s.wordAt a, s.noteWord a) else .error (s.wordFault a .read) := by
  unfold State.readWord State.wordReady State.wordFault State.wordAt State.noteWord
  rw [readByte_eq]
  cases h : s.accessible a
  · rfl
  · simp only [if_true, bind, Except.bind, readByte_eq, accessible_noteRead, Bool.true_and]
    cases s.accessible (a + 1#16) <;> rfl

/-- `write16LE` (R67, R307). -/
theorem writeWord_eq (s : State) (a w : Word) :
    s.writeWord a w = if s.wordReady a then .ok (s.storeWord a w) else .error (s.wordFault a .write) := by
  unfold State.writeWord State.wordReady State.wordFault State.storeWord
  rw [writeByte_eq]
  cases h : s.accessible a
  · rfl
  · simp only [if_true, bind, Except.bind, writeByte_eq, accessible_store, Bool.true_and]

/-- A store does not look at SP. -/
theorem store_withSp (s : State) (v : Word) (a : Word) (w : Byte) :
    State.store { s with sp := v } a w = { s.store a w with sp := v } := by
  unfold State.store
  rw [show State.target { s with sp := v } a = s.target a from rfl]
  split <;> rfl

/-- A push (41_load16.md). -/
theorem push_eq (s : State) (w : Word) :
    s.push w = if s.wordReady (s.sp - 2#16) then .ok (s.pushed w) else .error (s.wordFault (s.sp - 2#16) .write) := by
  unfold State.push
  rw [writeWord_eq]
  have h : State.storeWord { s with sp := s.sp - 2#16 } (s.sp - 2#16) w = s.pushed w := by
    unfold State.pushed State.storeWord
    simp only [store_withSp]
  rw [h]
  rfl

/-- A pop (41_load16.md). -/
theorem pop_eq (s : State) :
    s.pop = if s.wordReady s.sp then .ok (s.wordAt s.sp, s.popped) else .error (s.wordFault s.sp .read) := by
  unfold State.pop State.popped
  rw [readWord_eq]
  cases s.wordReady s.sp
  · rfl
  · simp [bind, Except.bind, pure, Except.pure, State.noteWord]

/-- `CALL` and `RST`: a push of pc and a jump (R266, R271). -/
theorem call_eq (s : State) (target : Word) :
    s.call target =
      if s.wordReady (s.sp - 2#16) then .ok ((s.pushed s.pc).jump target)
      else .error (s.wordFault (s.sp - 2#16) .write) := by
  unfold State.call
  rw [push_eq]
  cases s.wordReady (s.sp - 2#16) <;> rfl

/-- `RET`: a pop into pc (R268). -/
theorem ret_eq (s : State) :
    s.ret =
      if s.wordReady s.sp then .ok (s.popped.jump (s.wordAt s.sp)) else .error (s.wordFault s.sp .read) := by
  unfold State.ret
  rw [pop_eq]
  cases s.wordReady s.sp <;> rfl

/-- `RETI`: `RET`, then `ime` where the extension is present (R270, R327). -/
theorem returnFromInterrupt_eq (s : State) :
    s.returnFromInterrupt =
      if s.wordReady s.sp then
        .ok { s.popped.jump (s.wordAt s.sp) with ime := if s.interruptExt then true else s.ime }
      else .error (s.wordFault s.sp .read) := by
  unfold State.returnFromInterrupt
  rw [ret_eq]
  cases s.wordReady s.sp
  · rfl
  · simp only [if_true, bind, Except.bind, pure, Except.pure]
    have hx : (s.popped.jump (s.wordAt s.sp)).interruptExt = s.interruptExt := by
      simp [State.popped, State.noteWord]
    have hi : (s.popped.jump (s.wordAt s.sp)).ime = s.ime := by simp [State.popped, State.noteWord]
    cases hs : s.interruptExt
    · rw [if_neg (by rw [hx, hs]; simp), if_neg (by simp), ← hi]
    · rw [if_pos (by rw [hx, hs]), if_pos rfl]

@[simp] theorem finish_ok (n : Nat) (s : State) : finish n (.ok s) = .next { s with cycles := n } := rfl

@[simp] theorem finish_error (n : Nat) (k : Fault) : finish n (.error k) = .fault k := rfl

/-- A meaning that begins with a byte read. -/
theorem finish_read (n : Nat) (s : State) (a : Word) (k : Byte × State → Res State) :
    finish n (s.readByte a >>= k) =
      if s.accessible a then finish n (k (s.byteAt a, s.noteRead a)) else .fault (accessFault a .read) := by
  rw [readByte_eq]
  cases s.accessible a <;> rfl

/-- A meaning that begins with a byte write. -/
theorem finish_write (n : Nat) (s : State) (a : Word) (v : Byte) (k : State → Res State) :
    finish n (s.writeByte a v >>= k) =
      if s.accessible a then finish n (k (s.store a v)) else .fault (accessFault a .write) := by
  rw [writeByte_eq]
  cases s.accessible a <;> rfl

/-- A meaning that is one byte write. -/
theorem finish_write_last (n : Nat) (s : State) (a : Word) (v : Byte) :
    finish n (s.writeByte a v) =
      if s.accessible a then .next { s.store a v with cycles := n } else .fault (accessFault a .write) := by
  rw [writeByte_eq]
  cases s.accessible a <;> rfl

/-- A meaning that ends in an operation answering one state or one fatal condition. -/
theorem finish_ite (n : Nat) (b : Bool) (t : State) (k : Fault) :
    finish n (if b then .ok t else .error k) = if b then .next { t with cycles := n } else .fault k := by
  cases b <;> rfl

end Sys2Proof.Machine
end

