-- ==== Sys2Proof/Laws/Forms.lean ====
section
/-! SUPPORT. The effect of each form written with the shared operations, and the one case split over the 512 rows:
`exec` of an instruction is the effect of its form. Later proofs split over the 63 forms. -/

namespace Sys2Proof.Machine

/-- The effect of a form. -/
def runForm (s : State) : Form → Out
  | .ldRegReg dst r => finish 1 (copyReg dst r s)
  | .ldRegImm dst n8 => finish 2 (loadImm dst n8 s)
  | .ldRegMem dst => finish 2 (loadMem dst s.hl s)
  | .ldMemReg r => finish 2 (storeReg s.hl r s)
  | .ldMemImm n8 => finish 3 (storeByte s.hl n8 s)
  | .loadA p => finish 2 (loadMem .a (s.pointer p) s)
  | .storeA p => finish 2 (storeReg (s.pointer p) .a s)
  | .loadAbs n16 => finish 4 (loadMem .a n16 s)
  | .storeAbs n16 => finish 4 (storeReg n16 .a s)
  | .loadHighImm n8 => finish 3 (loadMem .a (highPage n8) s)
  | .storeHighImm n8 => finish 3 (storeReg (highPage n8) .a s)
  | .loadHighC => finish 2 (loadMem .a (highPage s.c) s)
  | .storeHighC => finish 2 (storeReg (highPage s.c) .a s)
  | .storeAStep dir => finish 2 (storeAStep (match dir with | .inc => 1#16 | .dec => -1#16) s)
  | .loadAStep dir => finish 2 (loadAStep (match dir with | .inc => 1#16 | .dec => -1#16) s)
  | .ldPairImm p n16 => finish 3 (loadPair p n16 s)
  | .ldMemSp n16 => finish 5 (storeSp n16 s)
  | .ldSpHl => finish 2 (copyHlToSp s)
  | .ldHlSp e8 => finish 3 (loadHlSp e8 s)
  | .push p => finish 4 (s.push (s.stackPair p))
  | .pop p => finish 3 (popPair p s)
  | .aluReg op r => finish 1 (aluReg op r s)
  | .aluMem op => finish 2 (aluMem op s)
  | .aluImm op n8 => finish 2 (aluImm op n8 s)
  | .incReg r => finish 1 (incReg r s)
  | .incMem => finish 3 (incMem s)
  | .decReg r => finish 1 (decReg r s)
  | .decMem => finish 3 (decMem s)
  | .daa => finish 1 (decimalAdjust s)
  | .cpl => finish 1 (complementA s)
  | .scf => finish 1 (setCarry s)
  | .ccf => finish 1 (complementCarry s)
  | .addHl p => finish 2 (addToHl p s)
  | .incPair p => finish 2 (incPair p s)
  | .decPair p => finish 2 (decPair p s)
  | .addSp e8 => finish 4 (addToSp e8 s)
  | .rotA op => finish 1 (rotateA op s)
  | .rotReg op r => finish 2 (rotateReg op r s)
  | .rotMem op => finish 4 (rotateMem op s)
  | .bitReg b r => finish 2 (testBitReg b r s)
  | .bitMem b => finish 3 (testBitMem b s)
  | .resReg b r => finish 2 (clearBitReg b r s)
  | .resMem b => finish 4 (clearBitMem b s)
  | .setReg b r => finish 2 (setBitReg b r s)
  | .setMem b => finish 4 (setBitMem b s)
  | .jp n16 => finish 4 (pure (s.jump n16))
  | .jpCond cc n16 => jumpIf cc n16 s
  | .jpHl => finish 1 (pure (s.jump s.hl))
  | .jr e8 => finish 3 (jumpRelative e8 s)
  | .jrCond cc e8 => jumpRelativeIf cc e8 s
  | .call n16 => finish 6 (s.call n16)
  | .callCond cc n16 => callIf cc n16 s
  | .ret => finish 4 s.ret
  | .retCond cc => returnIf cc s
  | .reti => finish 4 s.returnFromInterrupt
  | .rst t => finish 4 (s.call (BitVec.ofNat 16 (8 * t.val)))
  | .nop => finish 1 (pure s)
  | .stop _ => enterHalt 0x10#8 2#16 s
  | .halt => enterHalt 0x76#8 1#16 s
  | .di => finish 1 (disableInterrupts s)
  | .ei => finish 1 (enableInterrupts s)
  | .prefixCb ext => runExtended ext s
  | .illegal op => illegalOpcode op.byte s

/-- Every row runs the effect of its form. -/
theorem exec_eq_run (i : Instr) (s : State) : exec i s = runForm s (formOf i) := by cases i <;> rfl

/-- The bytes of a form, from the fields of its opcode. -/
def formBytes : Form → List Byte
  | .ldRegReg dst r => [opcode 1 dst.code r.code]
  | .ldRegImm dst n8 => [opcode 0 dst.code 6, n8]
  | .ldRegMem dst => [opcode 1 dst.code 6]
  | .ldMemReg r => [opcode 1 6 r.code]
  | .ldMemImm n8 => [0x36#8, n8]
  | .loadA .bc => [0x0A#8]
  | .loadA .de => [0x1A#8]
  | .storeA .bc => [0x02#8]
  | .storeA .de => [0x12#8]
  | .loadAbs n16 => [0xFA#8, loByte n16, hiByte n16]
  | .storeAbs n16 => [0xEA#8, loByte n16, hiByte n16]
  | .loadHighImm n8 => [0xF0#8, n8]
  | .storeHighImm n8 => [0xE0#8, n8]
  | .loadHighC => [0xF2#8]
  | .storeHighC => [0xE2#8]
  | .storeAStep .inc => [0x22#8]
  | .storeAStep .dec => [0x32#8]
  | .loadAStep .inc => [0x2A#8]
  | .loadAStep .dec => [0x3A#8]
  | .ldPairImm p n16 => [opcode 0 (2 * p.code) 1, loByte n16, hiByte n16]
  | .ldMemSp n16 => [0x08#8, loByte n16, hiByte n16]
  | .ldSpHl => [0xF9#8]
  | .ldHlSp e8 => [0xF8#8, e8]
  | .push p => [opcode 3 (2 * p.code) 5]
  | .pop p => [opcode 3 (2 * p.code) 1]
  | .aluReg op r => [opcode 2 op.code r.code]
  | .aluMem op => [opcode 2 op.code 6]
  | .aluImm op n8 => [opcode 3 op.code 6, n8]
  | .incReg r => [opcode 0 r.code 4]
  | .incMem => [opcode 0 6 4]
  | .decReg r => [opcode 0 r.code 5]
  | .decMem => [opcode 0 6 5]
  | .daa => [0x27#8]
  | .cpl => [0x2F#8]
  | .scf => [0x37#8]
  | .ccf => [0x3F#8]
  | .addHl p => [opcode 0 (2 * p.code + 1) 1]
  | .incPair p => [opcode 0 (2 * p.code) 3]
  | .decPair p => [opcode 0 (2 * p.code + 1) 3]
  | .addSp e8 => [0xE8#8, e8]
  | .rotA op => [opcode 0 op.code 7]
  | .rotReg op r => [0xCB#8, opcode 0 op.code r.code]
  | .rotMem op => [0xCB#8, opcode 0 op.code 6]
  | .bitReg b r => [0xCB#8, opcode 1 b.val r.code]
  | .bitMem b => [0xCB#8, opcode 1 b.val 6]
  | .resReg b r => [0xCB#8, opcode 2 b.val r.code]
  | .resMem b => [0xCB#8, opcode 2 b.val 6]
  | .setReg b r => [0xCB#8, opcode 3 b.val r.code]
  | .setMem b => [0xCB#8, opcode 3 b.val 6]
  | .jp n16 => [0xC3#8, loByte n16, hiByte n16]
  | .jpCond cc n16 => [opcode 3 cc.code 2, loByte n16, hiByte n16]
  | .jpHl => [0xE9#8]
  | .jr e8 => [0x18#8, e8]
  | .jrCond cc e8 => [opcode 0 (cc.code + 4) 0, e8]
  | .call n16 => [0xCD#8, loByte n16, hiByte n16]
  | .callCond cc n16 => [opcode 3 cc.code 4, loByte n16, hiByte n16]
  | .ret => [0xC9#8]
  | .retCond cc => [opcode 3 cc.code 0]
  | .reti => [0xD9#8]
  | .rst t => [opcode 3 t.val 7]
  | .nop => [0x00#8]
  | .stop n8 => [0x10#8, n8]
  | .halt => [0x76#8]
  | .di => [0xF3#8]
  | .ei => [0xFB#8]
  | .prefixCb ext => [0xCB#8, ext]
  | .illegal op => [op.byte]

/-- Every row has the bytes of its form. -/
theorem encode_eq_formBytes (i : Instr) : encode i = formBytes (formOf i) := by cases i <;> rfl

end Sys2Proof.Machine
end

