-- ==== Sys2Proof/Laws/Effect.lean ====
section
/-! SUPPORT. What each form can do, said once: the state it leaves (`nextOf`), and that a completed instruction has left
exactly that, every byte it accesses being reachable (`run_next`). Later proofs over all instructions start here. -/

namespace Sys2Proof.Machine

/-- The prefix row runs the extended instruction of its operand (R285). -/
theorem runExtended_eq (s : State) (e : Byte) : runExtended e s = runForm s (formOf (extendedInstr e)) := by
  have h : ∀ n : Fin 256, runExtended (BitVec.ofFin n) s = runForm s (formOf (extendedInstr (BitVec.ofFin n))) := by
    intro n
    fin_cases n <;> rfl
  exact h e.toFin

/-- An instruction has the effect of its effect form. -/
theorem exec_eq_effect (i : Instr) (s : State) : exec i s = runForm s (effectForm i) := by
  rw [exec_eq_run]
  unfold effectForm
  cases h : formOf i <;> try rfl
  simp only [runForm]
  exact runExtended_eq s _

/-- The state a form leaves where it completes. -/
def nextOf (s : State) : Form → State
  | .ldRegReg dst r => { s.setReg dst (s.reg r) with cycles := 1 }
  | .ldRegImm dst n8 => { s.setReg dst n8 with cycles := 2 }
  | .ldRegMem dst => { (s.noteRead s.hl).setReg dst (s.byteAt s.hl) with cycles := 2 }
  | .ldMemReg r => { s.store s.hl (s.reg r) with cycles := 2 }
  | .ldMemImm n8 => { s.store s.hl n8 with cycles := 3 }
  | .loadA p => { (s.noteRead (s.pointer p)).setReg .a (s.byteAt (s.pointer p)) with cycles := 2 }
  | .storeA p => { s.store (s.pointer p) s.a with cycles := 2 }
  | .loadAbs n16 => { (s.noteRead n16).setReg .a (s.byteAt n16) with cycles := 4 }
  | .storeAbs n16 => { s.store n16 s.a with cycles := 4 }
  | .loadHighImm n8 => { (s.noteRead (highPage n8)).setReg .a (s.byteAt (highPage n8)) with cycles := 3 }
  | .storeHighImm n8 => { s.store (highPage n8) s.a with cycles := 3 }
  | .loadHighC => { (s.noteRead (highPage s.c)).setReg .a (s.byteAt (highPage s.c)) with cycles := 2 }
  | .storeHighC => { s.store (highPage s.c) s.a with cycles := 2 }
  | .storeAStep dir => { (s.store s.hl s.a).setHl (s.hlStepped dir) with cycles := 2 }
  | .loadAStep dir => { ((s.noteRead s.hl).setReg .a (s.byteAt s.hl)).setHl (s.hlStepped dir) with cycles := 2 }
  | .ldPairImm p n16 => { s.setPair p n16 with cycles := 3 }
  | .ldMemSp n16 => { s.storeWord n16 s.sp with cycles := 5 }
  | .ldSpHl => { s with sp := s.hl, cycles := 2 }
  | .ldHlSp e8 => { s.setHl (s.sp + sext16 e8) with f := spOffsetFlags s.sp e8, cycles := 3 }
  | .push p => { s.pushed (s.stackPair p) with cycles := 4 }
  | .pop p => { s.popped.setStackPair p (s.wordAt s.sp) with cycles := 3 }
  | .aluReg op r => { applyAlu op (s.reg r) s with cycles := 1 }
  | .aluMem op => { applyAlu op (s.byteAt s.hl) (s.noteRead s.hl) with cycles := 2 }
  | .aluImm op n8 => { applyAlu op n8 s with cycles := 2 }
  | .incReg r => { s.setReg r (s.reg r + 1#8) with f := incFlags s.f (s.reg r), cycles := 1 }
  | .incMem => { (s.noteRead s.hl).store s.hl (s.byteAt s.hl + 1#8) with f := incFlags s.f (s.byteAt s.hl), cycles := 3 }
  | .decReg r => { s.setReg r (s.reg r - 1#8) with f := decFlags s.f (s.reg r), cycles := 1 }
  | .decMem => { (s.noteRead s.hl).store s.hl (s.byteAt s.hl - 1#8) with f := decFlags s.f (s.byteAt s.hl), cycles := 3 }
  | .daa => { s with a := (daaResult s.a s.f).a, f := (daaResult s.a s.f).f, cycles := 1 }
  | .cpl => { s with a := s.a ^^^ 0xFF#8, f := setFlags s.f none (some true) (some true) none, cycles := 1 }
  | .scf => { s with f := setFlags s.f none (some false) (some false) (some true), cycles := 1 }
  | .ccf => { s with f := setFlags s.f none (some false) (some false) (some (!flagC s.f)), cycles := 1 }
  | .addHl p => { s.setHl (s.hl + s.pair p) with f := addHlFlags s.f s.hl (s.pair p), cycles := 2 }
  | .incPair p => { s.setPair p (s.pair p + 1#16) with cycles := 2 }
  | .decPair p => { s.setPair p (s.pair p - 1#16) with cycles := 2 }
  | .addSp e8 => { s with sp := s.sp + sext16 e8, f := spOffsetFlags s.sp e8, cycles := 4 }
  | .rotA op => { s with a := op.result s.a (flagC s.f), f := op.accFlags s.a, cycles := 1 }
  | .rotReg op r => { s.setReg r (op.result (s.reg r) (flagC s.f)) with f := op.flags (s.reg r) (flagC s.f), cycles := 2 }
  | .rotMem op => { (s.noteRead s.hl).store s.hl (op.result (s.byteAt s.hl) (flagC s.f)) with f := op.flags (s.byteAt s.hl) (flagC s.f), cycles := 4 }
  | .bitReg b r => { s with f := bitFlags s.f (s.reg r) b, cycles := 2 }
  | .bitMem b => { s.noteRead s.hl with f := bitFlags s.f (s.byteAt s.hl) b, cycles := 3 }
  | .resReg b r => { s.setReg r (resBit (s.reg r) b) with cycles := 2 }
  | .resMem b => { (s.noteRead s.hl).store s.hl (resBit (s.byteAt s.hl) b) with cycles := 4 }
  | .setReg b r => { s.setReg r (setBit (s.reg r) b) with cycles := 2 }
  | .setMem b => { (s.noteRead s.hl).store s.hl (setBit (s.byteAt s.hl) b) with cycles := 4 }
  | .jp n16 => { s with pc := n16, cycles := 4 }
  | .jpCond cc n16 => if s.cond cc then { s with pc := n16, cycles := 4 } else { s with cycles := 3 }
  | .jpHl => { s with pc := s.hl, cycles := 1 }
  | .jr e8 => { s with pc := s.pc + sext16 e8, cycles := 3 }
  | .jrCond cc e8 => if s.cond cc then { s with pc := s.pc + sext16 e8, cycles := 3 } else { s with cycles := 2 }
  | .call n16 => { s.pushed s.pc with pc := n16, cycles := 6 }
  | .callCond cc n16 => if s.cond cc then { s.pushed s.pc with pc := n16, cycles := 6 } else { s with cycles := 3 }
  | .ret => { s.popped with pc := s.wordAt s.sp, cycles := 4 }
  | .retCond cc => if s.cond cc then { s.popped with pc := s.wordAt s.sp, cycles := 5 } else { s with cycles := 2 }
  | .reti => { s.popped with pc := s.wordAt s.sp, ime := s.ime || s.interruptExt, cycles := 4 }
  | .rst t => { s.pushed s.pc with pc := BitVec.ofNat 16 (8 * t.val), cycles := 4 }
  | .nop => { s with cycles := 1 }
  | .stop _ => { s with halted := true, cycles := 1 }
  | .halt => { s with halted := true, cycles := 1 }
  | .di => { s with ime := s.ime && !s.interruptExt, eiPending := s.eiPending && !s.interruptExt, cycles := 1 }
  | .ei => { s with eiPending := s.eiPending || s.interruptExt, cycles := 1 }
  | .prefixCb _ => s
  | .illegal _ => s

/-- What accesses in this order answer: the state given, or the fatal condition of the first byte that cannot be
reached (R307 item 6). -/
def answer (s : State) (l : List (Word × Access)) (t : State) : Out :=
  match l.find? (fun x => !s.accessible x.1) with
  | none => .next t
  | some x => .fault (accessFault x.1 x.2)

theorem answer_nil (s t : State) : answer s [] t = .next t := rfl

theorem answer_byte (s t : State) (a : Word) (k : Access) :
    answer s [(a, k)] t = if s.accessible a then .next t else .fault (accessFault a k) := by
  unfold answer
  cases h : s.accessible a <;> simp [h]

theorem answer_word (s t : State) (a : Word) (k : Access) :
    answer s [(a, k), (a + 1#16, k)] t = if s.wordReady a then .next t else .fault (s.wordFault a k) := by
  unfold answer State.wordReady State.wordFault
  cases h : s.accessible a <;> cases h' : s.accessible (a + 1#16) <;> simp [h, h']

theorem answer_update (s t : State) (a : Word) :
    answer s [(a, .read), (a, .write)] t = if s.accessible a then .next t else .fault (accessFault a .read) := by
  unfold answer
  cases h : s.accessible a <;> simp [h]

theorem answer_ite (s t u : State) (b : Bool) (l : List (Word × Access)) :
    answer s (if b then l else []) (if b then t else u) = if b then answer s l t else .next u := by
  cases b <;> rfl

/-- The forms that stop whatever memory holds: the illegal ones, and `HALT` and `STOP` in the base core. -/
def stopsAlways (s : State) : Form → Bool
  | .illegal _ => true
  | .halt | .stop _ => !s.interruptExt
  | _ => false

/-- THE SPEC LEMMA OF `runForm`: a form that is not the prefix and does not stop always answers `nextOf`, or the fatal
condition of its first access that cannot be reached. -/
theorem run_eq {s : State} {f : Form} (hp : ∀ e, f ≠ .prefixCb e) (hs : stopsAlways s f = false) :
    runForm s f = answer s (f.accesses s) (nextOf s f) := by
  cases f with
  | prefixCb e => exact absurd rfl (hp e)
  | illegal op => cases hs
  | halt =>
    have h : s.interruptExt = true := by simpa [stopsAlways] using hs
    show enterHalt 0x76#8 1#16 s = _
    unfold enterHalt
    rw [if_pos h]
    rfl
  | stop n8 =>
    have h : s.interruptExt = true := by simpa [stopsAlways] using hs
    show enterHalt 0x10#8 2#16 s = _
    unfold enterHalt
    rw [if_pos h]
    rfl
  | di =>
    cases h : s.interruptExt <;> simp [runForm, disableInterrupts, nextOf, Form.accesses, answer_nil, pure, Except.pure, h]
  | ei =>
    cases h : s.interruptExt <;> simp [runForm, enableInterrupts, nextOf, Form.accesses, answer_nil, pure, Except.pure, h]
  | ldRegMem dst => simp only [runForm, loadMem, finish_read, Form.accesses, answer_byte, nextOf]; rfl
  | loadA p => simp only [runForm, loadMem, finish_read, Form.accesses, answer_byte, nextOf]; rfl
  | loadAbs n16 => simp only [runForm, loadMem, finish_read, Form.accesses, answer_byte, nextOf]; rfl
  | loadHighImm n8 => simp only [runForm, loadMem, finish_read, Form.accesses, answer_byte, nextOf]; rfl
  | loadHighC => simp only [runForm, loadMem, finish_read, Form.accesses, answer_byte, nextOf]; rfl
  | ldMemReg r => simp only [runForm, storeReg, finish_write_last, Form.accesses, answer_byte, nextOf]
  | ldMemImm n8 => simp only [runForm, storeByte, finish_write_last, Form.accesses, answer_byte, nextOf]
  | storeA p => simp only [runForm, storeReg, finish_write_last, Form.accesses, answer_byte, nextOf]; rfl
  | storeAbs n16 => simp only [runForm, storeReg, finish_write_last, Form.accesses, answer_byte, nextOf]; rfl
  | storeHighImm n8 => simp only [runForm, storeReg, finish_write_last, Form.accesses, answer_byte, nextOf]; rfl
  | storeHighC => simp only [runForm, storeReg, finish_write_last, Form.accesses, answer_byte, nextOf]; rfl
  | storeAStep dir =>
    simp only [runForm, storeAStep, finish_write, Form.accesses, answer_byte, nextOf, pure, Except.pure, finish_ok, store_hl]
    cases dir <;> simp [State.hlStepped, BitVec.sub_eq_add_neg]
  | loadAStep dir =>
    simp only [runForm, loadAStep, finish_read, Form.accesses, answer_byte, nextOf, pure, Except.pure, finish_ok]
    cases dir <;> simp [State.hlStepped, BitVec.sub_eq_add_neg, State.setReg, State.hl, State.setHl]
  | ldMemSp n16 => simp only [runForm, storeSp, writeWord_eq, finish_ite, Form.accesses, answer_word, nextOf]
  | push p => simp only [runForm, push_eq, finish_ite, Form.accesses, pushAccesses, answer_word, nextOf]
  | pop p =>
    simp only [runForm, popPair, pop_eq, Form.accesses, popAccesses, answer_word, nextOf]
    cases s.wordReady s.sp <;> rfl
  | aluMem op => simp only [runForm, aluMem, finish_read, Form.accesses, answer_byte, nextOf]; rfl
  | bitMem b =>
    simp only [runForm, testBitMem, finish_read, Form.accesses, answer_byte, nextOf, pure, Except.pure, finish_ok, noteRead_f]
  | incMem =>
    simp only [runForm, incMem, finish_read, Form.accesses, answer_update, nextOf]
    cases h : s.accessible s.hl
    · rfl
    · simp only [if_true, noteRead_hl, finish_write, accessible_noteRead, h, pure, Except.pure, finish_ok, store_f, noteRead_f]
  | decMem =>
    simp only [runForm, decMem, finish_read, Form.accesses, answer_update, nextOf]
    cases h : s.accessible s.hl
    · rfl
    · simp only [if_true, noteRead_hl, finish_write, accessible_noteRead, h, pure, Except.pure, finish_ok, store_f, noteRead_f]
  | resMem b =>
    simp only [runForm, clearBitMem, finish_read, Form.accesses, answer_update, nextOf]
    cases h : s.accessible s.hl
    · rfl
    · simp only [if_true, noteRead_hl, finish_write_last, accessible_noteRead, h]
  | setMem b =>
    simp only [runForm, setBitMem, finish_read, Form.accesses, answer_update, nextOf]
    cases h : s.accessible s.hl
    · rfl
    · simp only [if_true, noteRead_hl, finish_write_last, accessible_noteRead, h]
  | rotMem op =>
    simp only [runForm, rotateMem, finish_read, Form.accesses, answer_update, nextOf]
    cases h : s.accessible s.hl
    · rfl
    · simp only [if_true, noteRead_hl, noteRead_f, finish_write, accessible_noteRead, h, pure, Except.pure, finish_ok, store_f]
  | call n16 => simp only [runForm, call_eq, finish_ite, Form.accesses, pushAccesses, answer_word, nextOf]; rfl
  | rst t => simp only [runForm, call_eq, finish_ite, Form.accesses, pushAccesses, answer_word, nextOf]; rfl
  | callCond cc n16 =>
    simp only [runForm, callIf, call_eq, finish_ite, Form.accesses, pushAccesses, nextOf, answer_ite, answer_word]; rfl
  | ret => simp only [runForm, ret_eq, finish_ite, Form.accesses, popAccesses, answer_word, nextOf]; rfl
  | retCond cc =>
    simp only [runForm, returnIf, ret_eq, finish_ite, Form.accesses, popAccesses, nextOf, answer_ite, answer_word]; rfl
  | reti =>
    simp only [runForm, returnFromInterrupt_eq, finish_ite, Form.accesses, popAccesses, answer_word, nextOf, State.jump]
    cases s.interruptExt <;> simp
  | jpCond cc n16 => simp only [runForm, jumpIf, Form.accesses, nextOf, answer_nil]; cases s.cond cc <;> rfl
  | jrCond cc e8 => simp only [runForm, jumpRelativeIf, Form.accesses, nextOf, answer_nil]; cases s.cond cc <;> rfl
  | _ => rfl

/-- A completed form left `nextOf`. -/
theorem run_next {s t : State} {f : Form} (hp : ∀ e, f ≠ .prefixCb e) (h : runForm s f = .next t) : t = nextOf s f := by
  cases hs : stopsAlways s f
  · rw [run_eq hp hs] at h
    unfold answer at h
    split at h
    · simpa using h.symm
    · cases h
  · exfalso
    unfold stopsAlways at hs
    split at hs
    · cases h
    · simp only [runForm, enterHalt, Bool.not_eq_true'] at h hs; rw [hs] at h; cases h
    · simp only [runForm, enterHalt, Bool.not_eq_true'] at h hs; rw [hs] at h; cases h
    · cases hs

/-- The form of the prefix row. -/
def Form.isPrefix : Form → Bool
  | .prefixCb _ => true
  | _ => false

/-- An extended opcode is never the prefix. -/
theorem effectForm_not_prefix (i : Instr) (e : Byte) : effectForm i ≠ .prefixCb e := by
  have hx : ∀ n : Fin 256, (formOf (extendedInstr (BitVec.ofFin n))).isPrefix = false := by
    intro n
    fin_cases n <;> rfl
  intro h
  unfold effectForm at h
  split at h
  · rename_i ext _
    have := hx ext.toFin
    rw [show BitVec.ofFin ext.toFin = ext from rfl, h] at this
    cases this
  · rename_i hn
    exact hn e h

/-- THE SPEC LEMMA OF `exec`. -/
theorem exec_next {i : Instr} {s t : State} (h : exec i s = .next t) : t = nextOf s (effectForm i) :=
  run_next (effectForm_not_prefix i) (by rw [← exec_eq_effect]; exact h)

end Sys2Proof.Machine
end

