-- ==== Sys2Proof/Laws/Fetch.lean ====
section
/-! SUPPORT. What reading instruction bytes does, said once: the fetch finds the instruction that the bytes decode to
(`fetchRest_of_bytes`), its reads change nothing but what a device sees of them (`fetchRest_after`), and it fails by the
first byte that cannot be reached alone (`fetchRest_error`) (spec 30_encoding.md R94; 60_exceptions.md R315). -/

namespace Sys2Proof.Machine

/-! ### Reads and the record of device calls -/

theorem noteRead_onlyCalls (s : State) (a : Word) : s.noteRead a = { s with extCalls := (s.noteRead a).extCalls } := by
  unfold State.noteRead; split <;> rfl

theorem handlerTarget_ne_device {k : Handler} (h : k ≠ .device) (g g' : Region) (b : Buffer) (off off' : Nat) :
    handlerTarget k g b off ≠ .device g' off' := by
  cases k
  case device => exact absurd rfl h
  case ifOnly => simp only [handlerTarget]; split <;> simp
  all_goals simp [handlerTarget]

theorem target_ne_device {s : State} (h : s.noDevice = true) (a : Word) (g : Region) (off : Nat) :
    s.target a ≠ .device g off := by
  simp only [State.noDevice, Bool.and_eq_true, bne_iff_ne] at h
  obtain ⟨⟨⟨h1, h2⟩, h3⟩, h4⟩ := h
  unfold State.target targetOf
  cases (resolve a).region
  case unusable => exact handlerTarget_ne_device h1 _ _ _ _ _
  case io => exact handlerTarget_ne_device h2 _ _ _ _ _
  case hram => exact handlerTarget_ne_device h3 _ _ _ _ _
  case ie => exact handlerTarget_ne_device h4 _ _ _ _ _
  all_goals simp

/-- With no device a read changes nothing. -/
theorem noteRead_noDevice {s : State} (h : s.noDevice = true) (a : Word) : s.noteRead a = s := by
  unfold State.noteRead
  split
  · rename_i g off ht; exact absurd ht (target_ne_device h a g off)
  · rfl

@[simp] theorem noDevice_noteRead (s : State) (a : Word) : (s.noteRead a).noDevice = s.noDevice := by
  simp [State.noDevice]

/-- `t` is `s` after reads: the same but for the calls that devices have seen, and the same where there is no device. -/
def State.readsOnly (s t : State) : Prop :=
  t = { s with extCalls := t.extCalls } ∧ (s.noDevice = true → t = s)

theorem readsOnly_refl (s : State) : s.readsOnly s := ⟨rfl, fun _ => rfl⟩

theorem readsOnly_noteRead {s t : State} (h : s.readsOnly t) (a : Word) : s.readsOnly (t.noteRead a) := by
  refine ⟨?_, fun hd => ?_⟩
  · rw [noteRead_onlyCalls, h.1]
  · rw [h.2 hd, noteRead_noDevice hd]

theorem readsOnly_readByte {s t u : State} {a : Word} {v : Byte} (h : s.readsOnly t) (hr : t.readByte a = .ok (v, u)) :
    s.readsOnly u := by
  rw [readByte_eq] at hr
  split at hr
  · cases hr; exact readsOnly_noteRead h a
  · cases hr

theorem readsOnly_readWord {s t u : State} {a w : Word} (h : s.readsOnly t) (hr : t.readWord a = .ok (w, u)) :
    s.readsOnly u := by
  rw [readWord_eq] at hr
  split at hr
  · cases hr; exact readsOnly_noteRead (readsOnly_noteRead h a) (a + 1#16)
  · cases hr

/-! ### The fetch -/

/-- The reads of a fetch after the opcode. -/
theorem fetchRest_after {s t : State} {a : Word} {op : Byte} {x : Fetched} (h : s.readsOnly t)
    (hf : fetchRest t a op = .ok x) : s.readsOnly x.after := by
  unfold fetchRest at hf
  split at hf
  · cases hf; exact h
  all_goals
    simp only [bind, Except.bind] at hf
    split at hf
    · cases hf
    · rename_i r hr
      cases hf
      first | exact readsOnly_readByte h hr | exact readsOnly_readWord h hr

/-- Where the bytes from `a` can be read and are those of an instruction, the fetch finds it, with the address after it. -/
theorem fetchRest_of_bytes {s : State} {a : Word} {i : Instr} (hd : decode (encode i) = .ok (i, []))
    (hr : s.bytesReady a (encode i).length = true) (hb : s.bytesFrom a (encode i).length = encode i) :
    s.accessible a = true ∧
      fetchRest (s.noteRead a) a (s.byteAt a) =
        .ok { instr := i, next := a + BitVec.ofNat 16 (encode i).length, after := s.afterBytes a (encode i).length } := by
  generalize encode i = bs at *
  cases bs with
  | nil => cases hd
  | cons op rest =>
    simp only [List.length_cons, State.bytesReady, State.bytesFrom, Bool.and_eq_true, List.cons.injEq] at hr hb
    refine ⟨hr.1, ?_⟩
    rw [hb.1]
    have second : ∀ v : Byte, rest = [v] →
        (s.noteRead a).readByte (a + 1#16) = .ok (v, s.afterBytes a 2) := by
      rintro v rfl
      simp only [List.length_cons, List.length_nil, State.bytesReady, State.bytesFrom, Bool.and_eq_true,
        List.cons.injEq] at hr hb
      rw [readByte_ok (by simpa using hr.2.1), hb.2.1]; rfl
    simp only [decode] at hd
    unfold fetchRest
    cases he : primaryEntry op <;> simp only [he] at hd
    case op j => simp at hd; obtain ⟨rfl, rfl⟩ := hd; rfl
    case n16 make =>
      rcases rest with _ | ⟨lo, _ | ⟨hi, r⟩⟩
      · cases hd
      · cases hd
      · simp at hd; obtain ⟨rfl, rfl⟩ := hd
        simp only [List.length_cons, List.length_nil, State.bytesReady, State.bytesFrom, Bool.and_eq_true,
          List.cons.injEq] at hr hb
        have ready : (s.noteRead a).wordReady (a + 1#16) = true := by simp [State.wordReady, hr.2.1, hr.2.2.1]
        have word : (s.noteRead a).wordAt (a + 1#16) = joinBytes hi lo := by unfold State.wordAt; rw [hb.2.1, hb.2.2.1]
        rw [readWord_eq, ready]
        simp only [if_true, bind, Except.bind, pure, Except.pure, word]; rfl
    all_goals
      cases rest with
      | nil => cases hd
      | cons v r =>
        simp at hd; obtain ⟨rfl, rfl⟩ := hd
        simp only [second v rfl, bind, Except.bind, pure, Except.pure]; rfl

/-- The one way in which the reads after the opcode fail: the first byte that cannot be reached, in ascending order. -/
theorem fetchRest_error {s t : State} {a : Word} {op : Byte} {k : Fault} (h : ∀ b, t.accessible b = s.accessible b)
    (hf : fetchRest t a op = .error k) :
    ∃ b, s.accessible b = false ∧ k = accessFault b .read ∧ (b = a + 1#16 ∨ b = a + 2#16) := by
  have third : a + 1#16 + 1#16 = a + 2#16 := by bv_omega
  have second : ∀ {α : Type} (f : Byte × State → Res α) (e : Fault), (t.readByte (a + 1#16) >>= f) = .error e →
      (∀ r, f r ≠ .error e) → s.accessible (a + 1#16) = false ∧ e = accessFault (a + 1#16) .read := by
    intro α f e he hn
    rw [readByte_eq, h] at he
    cases h1 : s.accessible (a + 1#16) <;> rw [h1] at he
    · exact ⟨rfl, by cases he; rfl⟩
    · exact absurd he (hn _)
  unfold fetchRest at hf
  split at hf
  · cases hf
  case h_4 =>
    simp only [bind, Except.bind, readWord_eq, State.wordReady, State.wordFault, h, third] at hf
    cases h1 : s.accessible (a + 1#16) <;> simp only [h1] at hf
    · cases hf; exact ⟨_, h1, rfl, .inl rfl⟩
    · cases h2 : s.accessible (a + 2#16) <;> simp only [h2] at hf
      · cases hf; exact ⟨_, h2, rfl, .inr rfl⟩
      · cases hf
  all_goals
    obtain ⟨h1, hk⟩ := second _ _ hf (by intro r hr; cases hr)
    exact ⟨_, h1, hk, .inl rfl⟩

end Sys2Proof.Machine
end

