-- ==== Sys2Proof/Laws/Launch.lean ====
section
/-! SUPPORT. Construction: the memory it builds is canonical whatever the bytes of the image are, and which launches are
legal (spec 70_reset_and_hazards.md R340 to R348). -/

namespace Sys2Proof.Machine

/-- Bytes laid out from an offset are canonical in a buffer that has room for them. -/
theorem cellsWf_cellsOfBytes {size : Nat} : ∀ (vs : List Byte) (lo k : Nat), lo ≤ k → k + vs.length ≤ size →
    cellsWf size lo (cellsOfBytes k vs) = true
  | [], _, _, _, _ => rfl
  | v :: rest, lo, k, hlo, hs => by
    rw [List.length_cons] at hs
    unfold cellsOfBytes
    split
    · exact cellsWf_cellsOfBytes rest lo (k + 1) (by omega) (by omega)
    · rename_i hv
      have ih := cellsWf_cellsOfBytes (size := size) rest (k + 1) (k + 1) (Nat.le_refl _) (by omega)
      simp [cellsWf, ih, hlo, hv]
      omega

/-- The image never spoils the canonical form: it is that of the given buffers. -/
theorem wf_launchMemory (x : Launch) :
    x.memory.wf x.romBanks = true ↔ { x.buffers with rom := [], ie := [] }.wf x.romBanks = true := by
  rw [wf_iff, wf_iff]
  have image : cellsWf (Buffer.size x.romBanks .rom) 0 (x.memory.cells .rom) = true :=
    cellsWf_cellsOfBytes _ 0 0 (Nat.le_refl _) (by
      rw [Nat.zero_add]; exact Nat.le_trans (List.length_take_le _ _) (Nat.le_refl _))
  constructor
  · intro h b
    cases b <;> first | rfl | exact h _
  · intro h b
    cases b
    case rom => exact image
    all_goals exact h _

/-- A launch is legal by the length of its image, its bank and its buffers, not by any byte of the image (R348). -/
theorem legal_iff (x : Launch) : x.legal = true ↔ 0x8000 ≤ x.image.length ∧ 1 ≤ x.wramSlot1.val ∧
    { x.buffers with rom := [], ie := [] }.wf x.romBanks = true := by
  simp only [Launch.legal, Bool.and_eq_true, decide_eq_true_eq, wf_launchMemory, and_assoc]

theorem init_isSome (x : Launch) : (∃ s, State.init x = some s) ↔ x.legal = true := by
  unfold State.init
  cases x.legal <;> simp

end Sys2Proof.Machine
end

