-- ==== Sys2Proof/Laws/Map.lean ====
section
/-! SUPPORT. The address map: the rows are contiguous and disjoint, and what any address can name (spec 20_memory.md R50
to R63), with what follows for stores: they keep memory canonical and touch one stored byte. -/

namespace Sys2Proof.Machine

/-- An address lies within its row. -/
theorem regionOf_bounds (a : Word) : regionFirst (regionOf a) ≤ a.toNat ∧ a.toNat ≤ regionLast (regionOf a) := by
  have hlt := a.isLt
  by_cases h0 : a.toNat ≤ 0x3FFF
  · have : regionOf a = .rom0 := by unfold regionOf; rw [if_pos h0]
    rw [this]; simp only [regionFirst, regionLast]; omega
  by_cases h1 : a.toNat ≤ 0x7FFF
  · have : regionOf a = .romX := by unfold regionOf; rw [if_neg h0, if_pos h1]
    rw [this]; simp only [regionFirst, regionLast]; omega
  by_cases h2 : a.toNat ≤ 0x8FFF
  · have : regionOf a = .tile0 := by unfold regionOf; rw [if_neg h0, if_neg h1, if_pos h2]
    rw [this]; simp only [regionFirst, regionLast]; omega
  by_cases h3 : a.toNat ≤ 0x97FF
  · have : regionOf a = .tile1 := by unfold regionOf; rw [if_neg h0, if_neg h1, if_neg h2, if_pos h3]
    rw [this]; simp only [regionFirst, regionLast]; omega
  by_cases h4 : a.toNat ≤ 0x9BFF
  · have : regionOf a = .map0 := by unfold regionOf; rw [if_neg h0, if_neg h1, if_neg h2, if_neg h3, if_pos h4]
    rw [this]; simp only [regionFirst, regionLast]; omega
  by_cases h5 : a.toNat ≤ 0x9FFF
  · have : regionOf a = .map1 := by unfold regionOf; rw [if_neg h0, if_neg h1, if_neg h2, if_neg h3, if_neg h4, if_pos h5]
    rw [this]; simp only [regionFirst, regionLast]; omega
  by_cases h6 : a.toNat ≤ 0xBFFF
  · have : regionOf a = .eram := by unfold regionOf; rw [if_neg h0, if_neg h1, if_neg h2, if_neg h3, if_neg h4, if_neg h5, if_pos h6]
    rw [this]; simp only [regionFirst, regionLast]; omega
  by_cases h7 : a.toNat ≤ 0xCFFF
  · have : regionOf a = .wram0 := by unfold regionOf; rw [if_neg h0, if_neg h1, if_neg h2, if_neg h3, if_neg h4, if_neg h5, if_neg h6, if_pos h7]
    rw [this]; simp only [regionFirst, regionLast]; omega
  by_cases h8 : a.toNat ≤ 0xDFFF
  · have : regionOf a = .wramX := by unfold regionOf; rw [if_neg h0, if_neg h1, if_neg h2, if_neg h3, if_neg h4, if_neg h5, if_neg h6, if_neg h7, if_pos h8]
    rw [this]; simp only [regionFirst, regionLast]; omega
  by_cases h9 : a.toNat ≤ 0xFDFF
  · have : regionOf a = .echo := by unfold regionOf; rw [if_neg h0, if_neg h1, if_neg h2, if_neg h3, if_neg h4, if_neg h5, if_neg h6, if_neg h7, if_neg h8, if_pos h9]
    rw [this]; simp only [regionFirst, regionLast]; omega
  by_cases h10 : a.toNat ≤ 0xFE9F
  · have : regionOf a = .oam := by unfold regionOf; rw [if_neg h0, if_neg h1, if_neg h2, if_neg h3, if_neg h4, if_neg h5, if_neg h6, if_neg h7, if_neg h8, if_neg h9, if_pos h10]
    rw [this]; simp only [regionFirst, regionLast]; omega
  by_cases h11 : a.toNat ≤ 0xFEFF
  · have : regionOf a = .unusable := by unfold regionOf; rw [if_neg h0, if_neg h1, if_neg h2, if_neg h3, if_neg h4, if_neg h5, if_neg h6, if_neg h7, if_neg h8, if_neg h9, if_neg h10, if_pos h11]
    rw [this]; simp only [regionFirst, regionLast]; omega
  by_cases h12 : a.toNat ≤ 0xFF7F
  · have : regionOf a = .io := by unfold regionOf; rw [if_neg h0, if_neg h1, if_neg h2, if_neg h3, if_neg h4, if_neg h5, if_neg h6, if_neg h7, if_neg h8, if_neg h9, if_neg h10, if_neg h11, if_pos h12]
    rw [this]; simp only [regionFirst, regionLast]; omega
  by_cases h13 : a.toNat ≤ 0xFFFE
  · have : regionOf a = .hram := by unfold regionOf; rw [if_neg h0, if_neg h1, if_neg h2, if_neg h3, if_neg h4, if_neg h5, if_neg h6, if_neg h7, if_neg h8, if_neg h9, if_neg h10, if_neg h11, if_neg h12, if_pos h13]
    rw [this]; simp only [regionFirst, regionLast]; omega
  have : regionOf a = .ie := by unfold regionOf; rw [if_neg h0, if_neg h1, if_neg h2, if_neg h3, if_neg h4, if_neg h5, if_neg h6, if_neg h7, if_neg h8, if_neg h9, if_neg h10, if_neg h11, if_neg h12, if_neg h13]
  rw [this]; simp only [regionFirst, regionLast]; omega

/-- No two rows overlap. -/
theorem region_unique (n : Nat) (g k : Region) (h1 : regionFirst g ≤ n) (h2 : n ≤ regionLast g) (h3 : regionFirst k ≤ n) (h4 : n ≤ regionLast k) : g = k := by
  cases g <;> cases k <;> first | rfl | (simp only [regionFirst, regionLast] at h1 h2 h3 h4; omega)

/-- The rows of R50 and `regionOf` say the same. -/
theorem bounds_iff (a : Word) (g : Region) : regionFirst g ≤ a.toNat ∧ a.toNat ≤ regionLast g ↔ g = regionOf a := by
  have := regionOf_bounds a
  constructor
  · intro h; exact region_unique _ _ _ h.1 h.2 this.1 this.2
  · intro h; rw [h]; exact this


/-- The echo addresses. -/
theorem echo_iff (a : Word) : regionOf a = .echo ↔ 0xE000 ≤ a.toNat ∧ a.toNat ≤ 0xFDFF := by
  rw [eq_comm, ← bounds_iff]; simp [regionFirst, regionLast]

/-- Where an echo address is translated to. -/
theorem echo_target (a : Word) (h : 0xE000 ≤ a.toNat ∧ a.toNat ≤ 0xFDFF) :
    (a - 0x2000#16).toNat = a.toNat - 0x2000 := by bv_omega

/-- What an address of a row other than the echo names. -/
theorem target_row (s : State) (a : Word) (g : Region) (hg : g ≠ .echo) (h1 : regionFirst g ≤ a.toNat)
    (h2 : a.toNat ≤ regionLast g) :
    s.target a = targetOf s { region := g, offset := a.toNat - regionFirst g, permission := regionPermission g } := by
  have := (bounds_iff a g).mp ⟨h1, h2⟩
  unfold State.target resolve
  rw [if_neg (this ▸ hg)]
  unfold resolveRow
  rw [← this]

/-- What any address names: a byte of the image, a writable byte inside its buffer, an unmapped offset, a device's byte, or an
unwired region. -/
theorem target_cases (s : State) (a : Word) :
    (∃ off, s.target a = .cell ⟨.rom, off⟩ .readOnly ∧ (resolve a).permission = .readOnly ∧ a.toNat < 0x8000) ∨
    (∃ p, s.target a = .cell p .writable ∧ p.buf ≠ .rom ∧ (∀ n, p.off < p.buf.size n) ∧ (resolve a).permission = .writable ∧ 0x8000 ≤ a.toNat) ∨
    (s.target a = .unmapped ∧ (resolve a).permission = .writable ∧ 0xFEA0 ≤ a.toNat) ∨
    (∃ g off, s.target a = .device g off ∧ (resolve a).permission = .writable ∧ 0xFEA0 ≤ a.toNat) ∨
    (∃ g, s.target a = .unwired g ∧ (resolve a).permission = .writable ∧ 0xFEA0 ≤ a.toNat) := by
  have key : ∀ b : Word, regionOf b ≠ .echo → regionOf b ≠ .rom0 → regionOf b ≠ .romX → b.toNat < 0xFEA0 →
      ∃ p, targetOf s (resolveRow b) = .cell p .writable ∧ p.buf ≠ .rom ∧ (∀ n, p.off < p.buf.size n) ∧ (resolveRow b).permission = .writable := by
    intro b h1 h2 h3 h4
    have hc := regionOf_bounds b
    have hw := s.wramSlot1.isLt
    have he := s.eramBank.isLt
    unfold resolveRow targetOf
    cases hr : regionOf b <;> rw [hr] at hc <;> simp only [regionFirst, regionLast] at hc <;>
      simp_all [regionPermission] <;> first | omega | skip
    all_goals (intro n; simp only [Buffer.size, regionFirst, Config.eramSize, Config.wramBankSize]; omega)
  have hc := regionOf_bounds a
  by_cases he : regionOf a = .echo
  · right; left
    have hr := (echo_iff a).mp he
    have ht := echo_target a hr
    have hne : regionOf (a - 0x2000#16) ≠ .echo := by rw [Ne, echo_iff]; omega
    have h0 : regionOf (a - 0x2000#16) ≠ .rom0 := by
      intro hh; have := (bounds_iff (a - 0x2000#16) .rom0).mpr hh.symm; simp [regionLast] at this; omega
    have hx : regionOf (a - 0x2000#16) ≠ .romX := by
      intro hh; have := (bounds_iff (a - 0x2000#16) .romX).mpr hh.symm; simp [regionFirst, regionLast] at this; omega
    obtain ⟨p, h1, h2, h3, h4⟩ := key _ hne h0 hx (by omega)
    exact ⟨p, by unfold State.target resolve; rw [if_pos he]; exact h1, h2, h3, by unfold resolve; rw [if_pos he]; exact h4, by omega⟩
  · have hres : resolve a = resolveRow a := by unfold resolve; rw [if_neg he]
    have htt : s.target a = targetOf s (resolveRow a) := by unfold State.target; rw [hres]
    rw [htt, hres]
    by_cases hro : regionOf a = .rom0 ∨ regionOf a = .romX
    · left
      rcases hro with h | h <;> rw [h] at hc <;> simp only [regionFirst, regionLast] at hc <;>
        simp [resolveRow, targetOf, h, regionPermission] <;> omega
    · push Not at hro
      by_cases hl : a.toNat < 0xFEA0
      · right; left
        obtain ⟨p, h1, h2, h3, h4⟩ := key a he hro.1 hro.2 hl
        refine ⟨p, h1, h2, h3, h4, ?_⟩
        by_contra hlt
        by_cases h4 : a.toNat ≤ 0x3FFF
        · exact hro.1 ((bounds_iff a .rom0).mp ⟨Nat.zero_le _, h4⟩).symm
        · exact hro.2 ((bounds_iff a .romX).mp ⟨by simp [regionFirst]; omega, by simp [regionLast]; omega⟩).symm
      · have key2 : ∀ hd g buf off, (∀ n, off < buf.size n) → buf ≠ .rom →
          (∃ p, handlerTarget hd g buf off = .cell p .writable ∧ p.buf ≠ .rom ∧ (∀ n, p.off < p.buf.size n)) ∨
          handlerTarget hd g buf off = .unmapped ∨ (∃ g' o, handlerTarget hd g buf off = .device g' o) ∨
          (∃ g', handlerTarget hd g buf off = .unwired g') := by
          intro hd g buf off h1 h2
          cases hd with
          | absent => right; right; right; exact ⟨_, rfl⟩
          | storage => left; exact ⟨_, rfl, h2, h1⟩
          | ifOnly =>
            unfold handlerTarget
            by_cases h : off = 0x0F
            · left; simp only [if_pos h]; exact ⟨_, rfl, h2, h1⟩
            · right; left; simp [h]
          | device => right; right; left; exact ⟨_, _, rfl⟩
        have hlim := a.isLt
        have fin : ∀ hd g buf off, (∀ n, off < buf.size n) → buf ≠ .rom → targetOf s (resolveRow a) = handlerTarget hd g buf off →
            (resolveRow a).permission = .writable →
            (∃ off, targetOf s (resolveRow a) = .cell ⟨.rom, off⟩ .readOnly ∧ (resolveRow a).permission = .readOnly ∧ a.toNat < 0x8000) ∨
            (∃ p, targetOf s (resolveRow a) = .cell p .writable ∧ p.buf ≠ .rom ∧ (∀ n, p.off < p.buf.size n) ∧ (resolveRow a).permission = .writable ∧ 0x8000 ≤ a.toNat) ∨
            (targetOf s (resolveRow a) = .unmapped ∧ (resolveRow a).permission = .writable ∧ 0xFEA0 ≤ a.toNat) ∨
            (∃ g off, targetOf s (resolveRow a) = .device g off ∧ (resolveRow a).permission = .writable ∧ 0xFEA0 ≤ a.toNat) ∨
            (∃ g, targetOf s (resolveRow a) = .unwired g ∧ (resolveRow a).permission = .writable ∧ 0xFEA0 ≤ a.toNat) := by
          intro hd g buf off h1 h2 h3 h4
          rw [h3]
          rcases key2 hd g buf off h1 h2 with ⟨p, q1, q2, q3⟩ | q | ⟨g', o, q⟩ | ⟨g', q⟩
          · right; left; exact ⟨p, q1, q2, q3, h4, by omega⟩
          · right; right; left; exact ⟨q, h4, by omega⟩
          · right; right; right; left; exact ⟨_, _, q, h4, by omega⟩
          · right; right; right; right; exact ⟨_, q, h4, by omega⟩
        cases hr : regionOf a <;> rw [hr] at hc <;> simp only [regionFirst, regionLast] at hc <;> try omega
        · exact fin s.handlers.unusable .unusable .unusable (a.toNat - 0xFEA0) (by intro n; simp only [Buffer.size]; omega) (by decide) (by unfold resolveRow; rw [hr]; rfl) (by unfold resolveRow; rw [hr]; rfl)
        · exact fin s.handlers.io .io .io (a.toNat - 0xFF00) (by intro n; simp only [Buffer.size]; omega) (by decide) (by unfold resolveRow; rw [hr]; rfl) (by unfold resolveRow; rw [hr]; rfl)
        · exact fin s.handlers.hram .hram .hram (a.toNat - 0xFF80) (by intro n; simp only [Buffer.size]; omega) (by decide) (by unfold resolveRow; rw [hr]; rfl) (by unfold resolveRow; rw [hr]; rfl)
        · exact fin s.handlers.ie .ie .ie (a.toNat - 0xFFFF) (by intro n; simp only [Buffer.size]; omega) (by decide) (by unfold resolveRow; rw [hr]; rfl) (by unfold resolveRow; rw [hr]; rfl)

/-- The permission of a stored byte is that of its buffer. -/
theorem perm_of_cell {s : State} {a : Word} {p : Loc} {perm : Permission} (h : s.target a = .cell p perm) :
    perm = if p.buf = .rom then .readOnly else .writable := by
  rcases target_cases s a with ⟨o, q, -⟩ | ⟨r, q, hb, -⟩ | ⟨q, -⟩ | ⟨g, o, q, -⟩ | ⟨g, q, -⟩ <;> rw [h] at q <;> cases q
  · rfl
  · rw [if_neg hb]

/-- A writable stored byte is inside its buffer, and that is not the image. -/
theorem cell_writable {s : State} {a : Word} {p : Loc} (h : s.target a = .cell p .writable) :
    p.buf ≠ .rom ∧ ∀ n, p.off < p.buf.size n := by
  rcases target_cases s a with ⟨o, q, -⟩ | ⟨r, q, hb, ho, -⟩ | ⟨q, -⟩ | ⟨g, o, q, -⟩ | ⟨g, q, -⟩ <;> rw [h] at q <;> cases q
  exact ⟨hb, ho⟩

/-- A store keeps memory canonical. -/
theorem wf_store {s : State} {n : Nat} (hw : s.mem.wf n = true) (a : Word) (v : Byte) : (s.store a v).mem.wf n = true := by
  unfold State.store
  split
  · rename_i h
    exact wf_write hw _ v ((cell_writable h).2 n)
  · exact hw
  · exact hw

/-- A store leaves every stored byte but the one its address names. -/
theorem read_store {s : State} {n : Nat} (hw : s.mem.wf n = true) (a : Word) (v : Byte) (p : Loc)
    (hp : s.target a ≠ .cell p .writable) : (s.store a v).mem.read p = s.mem.read p := by
  unfold State.store
  split
  · rename_i q h
    rw [read_write hw, if_neg]
    rintro rfl
    exact hp h
  · rfl
  · rfl

/-- A store leaves the image, canonical or not. -/
theorem read_store_rom (s : State) (a : Word) (v : Byte) (k : Nat) :
    (s.store a v).mem.read { buf := .rom, off := k } = s.mem.read { buf := .rom, off := k } := by
  unfold State.store
  split
  · rename_i q h
    unfold Memory.read
    rw [cells_write, if_neg (Ne.symm (cell_writable h).1)]
  · rfl
  · rfl

/-- A store to a read-only region changes nothing (R59). -/
theorem store_readOnly {s : State} {a : Word} (v : Byte) (h : (resolve a).permission = .readOnly) : s.store a v = s := by
  rcases target_cases s a with ⟨o, q, -⟩ | ⟨r, -, -, -, q, -⟩ | ⟨-, q, -⟩ | ⟨g, o, -, q, -⟩ | ⟨g, -, q, -⟩
  · unfold State.store
    rw [q]
  all_goals (rw [h] at q; cases q)

/-- The permission of the triple is that of the stored byte. -/
theorem permission_of_cell {s : State} {a : Word} {p : Loc} {perm : Permission} (h : s.target a = .cell p perm) :
    (resolve a).permission = perm := by
  rcases target_cases s a with ⟨o, q, r, -⟩ | ⟨o, q, -, -, r, -⟩ | ⟨q, -⟩ | ⟨g, o, q, -⟩ | ⟨g, q, -⟩ <;> rw [h] at q <;> cases q <;> exact r

end Sys2Proof.Machine
end

