-- ==== Sys2Proof/Laws/PerInstr.lean ====
section
/-! SUPPORT. The family RoundTrip, an instruction as syntax: a well-formed instruction decodes back from its bytes,
whatever bytes follow (spec 30_encoding.md R90 to R106). One lemma per constructor of `Instr`. -/

namespace Sys2Proof.Laws.RoundTrip

open Sys2Proof.Machine

/-- The statement of the family. -/
def Statement (i : Instr) : Prop := i.wf = true → ∀ rest : List Byte, decode (encode i ++ rest) = .ok (i, rest)

/-- An operand word comes back from its two bytes. -/
theorem word (make : Word → Instr) (w : Word) (rest : List Byte) :
    (Except.ok (make (joinBytes (hiByte w) (loByte w)), rest) : Except DecodeError (Instr × List Byte)) =
      .ok (make w, rest) := by rw [joinBytes_hi_lo]

theorem nop : Statement .nop := fun _ _ => rfl

theorem ldBcN16 (n16 : Word) : Statement (.ldBcN16 n16) := fun _ rest => word .ldBcN16 n16 rest

theorem ldAtBcA : Statement .ldAtBcA := fun _ _ => rfl

theorem incBc : Statement .incBc := fun _ _ => rfl

theorem incB : Statement .incB := fun _ _ => rfl

theorem decB : Statement .decB := fun _ _ => rfl

theorem ldBN8 (n8 : Byte) : Statement (.ldBN8 n8) := fun _ _ => rfl

theorem rlca : Statement .rlca := fun _ _ => rfl

theorem ldAtN16Sp (n16 : Word) : Statement (.ldAtN16Sp n16) := fun _ rest => word .ldAtN16Sp n16 rest

theorem addHlBc : Statement .addHlBc := fun _ _ => rfl

theorem ldAAtBc : Statement .ldAAtBc := fun _ _ => rfl

theorem decBc : Statement .decBc := fun _ _ => rfl

theorem incC : Statement .incC := fun _ _ => rfl

theorem decC : Statement .decC := fun _ _ => rfl

theorem ldCN8 (n8 : Byte) : Statement (.ldCN8 n8) := fun _ _ => rfl

theorem rrca : Statement .rrca := fun _ _ => rfl

theorem stop (n8 : Byte) : Statement (.stop n8) := fun _ _ => rfl

theorem ldDeN16 (n16 : Word) : Statement (.ldDeN16 n16) := fun _ rest => word .ldDeN16 n16 rest

theorem ldAtDeA : Statement .ldAtDeA := fun _ _ => rfl

theorem incDe : Statement .incDe := fun _ _ => rfl

theorem incD : Statement .incD := fun _ _ => rfl

theorem decD : Statement .decD := fun _ _ => rfl

theorem ldDN8 (n8 : Byte) : Statement (.ldDN8 n8) := fun _ _ => rfl

theorem rla : Statement .rla := fun _ _ => rfl

theorem jrE8 (e8 : Byte) : Statement (.jrE8 e8) := fun _ _ => rfl

theorem addHlDe : Statement .addHlDe := fun _ _ => rfl

theorem ldAAtDe : Statement .ldAAtDe := fun _ _ => rfl

theorem decDe : Statement .decDe := fun _ _ => rfl

theorem incE : Statement .incE := fun _ _ => rfl

theorem decE : Statement .decE := fun _ _ => rfl

theorem ldEN8 (n8 : Byte) : Statement (.ldEN8 n8) := fun _ _ => rfl

theorem rra : Statement .rra := fun _ _ => rfl

theorem jrNzE8 (e8 : Byte) : Statement (.jrNzE8 e8) := fun _ _ => rfl

theorem ldHlN16 (n16 : Word) : Statement (.ldHlN16 n16) := fun _ rest => word .ldHlN16 n16 rest

theorem ldAtHliA : Statement .ldAtHliA := fun _ _ => rfl

theorem incHl : Statement .incHl := fun _ _ => rfl

theorem incH : Statement .incH := fun _ _ => rfl

theorem decH : Statement .decH := fun _ _ => rfl

theorem ldHN8 (n8 : Byte) : Statement (.ldHN8 n8) := fun _ _ => rfl

theorem daa : Statement .daa := fun _ _ => rfl

theorem jrZE8 (e8 : Byte) : Statement (.jrZE8 e8) := fun _ _ => rfl

theorem addHlHl : Statement .addHlHl := fun _ _ => rfl

theorem ldAAtHli : Statement .ldAAtHli := fun _ _ => rfl

theorem decHl : Statement .decHl := fun _ _ => rfl

theorem incL : Statement .incL := fun _ _ => rfl

theorem decL : Statement .decL := fun _ _ => rfl

theorem ldLN8 (n8 : Byte) : Statement (.ldLN8 n8) := fun _ _ => rfl

theorem cpl : Statement .cpl := fun _ _ => rfl

theorem jrNcE8 (e8 : Byte) : Statement (.jrNcE8 e8) := fun _ _ => rfl

theorem ldSpN16 (n16 : Word) : Statement (.ldSpN16 n16) := fun _ rest => word .ldSpN16 n16 rest

theorem ldAtHldA : Statement .ldAtHldA := fun _ _ => rfl

theorem incSp : Statement .incSp := fun _ _ => rfl

theorem incAtHl : Statement .incAtHl := fun _ _ => rfl

theorem decAtHl : Statement .decAtHl := fun _ _ => rfl

theorem ldAtHlN8 (n8 : Byte) : Statement (.ldAtHlN8 n8) := fun _ _ => rfl

theorem scf : Statement .scf := fun _ _ => rfl

theorem jrCE8 (e8 : Byte) : Statement (.jrCE8 e8) := fun _ _ => rfl

theorem addHlSp : Statement .addHlSp := fun _ _ => rfl

theorem ldAAtHld : Statement .ldAAtHld := fun _ _ => rfl

theorem decSp : Statement .decSp := fun _ _ => rfl

theorem incA : Statement .incA := fun _ _ => rfl

theorem decA : Statement .decA := fun _ _ => rfl

theorem ldAN8 (n8 : Byte) : Statement (.ldAN8 n8) := fun _ _ => rfl

theorem ccf : Statement .ccf := fun _ _ => rfl

theorem ldBB : Statement .ldBB := fun _ _ => rfl

theorem ldBC : Statement .ldBC := fun _ _ => rfl

theorem ldBD : Statement .ldBD := fun _ _ => rfl

theorem ldBE : Statement .ldBE := fun _ _ => rfl

theorem ldBH : Statement .ldBH := fun _ _ => rfl

theorem ldBL : Statement .ldBL := fun _ _ => rfl

theorem ldBAtHl : Statement .ldBAtHl := fun _ _ => rfl

theorem ldBA : Statement .ldBA := fun _ _ => rfl

theorem ldCB : Statement .ldCB := fun _ _ => rfl

theorem ldCC : Statement .ldCC := fun _ _ => rfl

theorem ldCD : Statement .ldCD := fun _ _ => rfl

theorem ldCE : Statement .ldCE := fun _ _ => rfl

theorem ldCH : Statement .ldCH := fun _ _ => rfl

theorem ldCL : Statement .ldCL := fun _ _ => rfl

theorem ldCAtHl : Statement .ldCAtHl := fun _ _ => rfl

theorem ldCA : Statement .ldCA := fun _ _ => rfl

theorem ldDB : Statement .ldDB := fun _ _ => rfl

theorem ldDC : Statement .ldDC := fun _ _ => rfl

theorem ldDD : Statement .ldDD := fun _ _ => rfl

theorem ldDE : Statement .ldDE := fun _ _ => rfl

theorem ldDH : Statement .ldDH := fun _ _ => rfl

theorem ldDL : Statement .ldDL := fun _ _ => rfl

theorem ldDAtHl : Statement .ldDAtHl := fun _ _ => rfl

theorem ldDA : Statement .ldDA := fun _ _ => rfl

theorem ldEB : Statement .ldEB := fun _ _ => rfl

theorem ldEC : Statement .ldEC := fun _ _ => rfl

theorem ldED : Statement .ldED := fun _ _ => rfl

theorem ldEE : Statement .ldEE := fun _ _ => rfl

theorem ldEH : Statement .ldEH := fun _ _ => rfl

theorem ldEL : Statement .ldEL := fun _ _ => rfl

theorem ldEAtHl : Statement .ldEAtHl := fun _ _ => rfl

theorem ldEA : Statement .ldEA := fun _ _ => rfl

theorem ldHB : Statement .ldHB := fun _ _ => rfl

theorem ldHC : Statement .ldHC := fun _ _ => rfl

theorem ldHD : Statement .ldHD := fun _ _ => rfl

theorem ldHE : Statement .ldHE := fun _ _ => rfl

theorem ldHH : Statement .ldHH := fun _ _ => rfl

theorem ldHL : Statement .ldHL := fun _ _ => rfl

theorem ldHAtHl : Statement .ldHAtHl := fun _ _ => rfl

theorem ldHA : Statement .ldHA := fun _ _ => rfl

theorem ldLB : Statement .ldLB := fun _ _ => rfl

theorem ldLC : Statement .ldLC := fun _ _ => rfl

theorem ldLD : Statement .ldLD := fun _ _ => rfl

theorem ldLE : Statement .ldLE := fun _ _ => rfl

theorem ldLH : Statement .ldLH := fun _ _ => rfl

theorem ldLL : Statement .ldLL := fun _ _ => rfl

theorem ldLAtHl : Statement .ldLAtHl := fun _ _ => rfl

theorem ldLA : Statement .ldLA := fun _ _ => rfl

theorem ldAtHlB : Statement .ldAtHlB := fun _ _ => rfl

theorem ldAtHlC : Statement .ldAtHlC := fun _ _ => rfl

theorem ldAtHlD : Statement .ldAtHlD := fun _ _ => rfl

theorem ldAtHlE : Statement .ldAtHlE := fun _ _ => rfl

theorem ldAtHlH : Statement .ldAtHlH := fun _ _ => rfl

theorem ldAtHlL : Statement .ldAtHlL := fun _ _ => rfl

theorem halt : Statement .halt := fun _ _ => rfl

theorem ldAtHlA : Statement .ldAtHlA := fun _ _ => rfl

theorem ldAB : Statement .ldAB := fun _ _ => rfl

theorem ldAC : Statement .ldAC := fun _ _ => rfl

theorem ldAD : Statement .ldAD := fun _ _ => rfl

theorem ldAE : Statement .ldAE := fun _ _ => rfl

theorem ldAH : Statement .ldAH := fun _ _ => rfl

theorem ldAL : Statement .ldAL := fun _ _ => rfl

theorem ldAAtHl : Statement .ldAAtHl := fun _ _ => rfl

theorem ldAA : Statement .ldAA := fun _ _ => rfl

theorem addB : Statement .addB := fun _ _ => rfl

theorem addC : Statement .addC := fun _ _ => rfl

theorem addD : Statement .addD := fun _ _ => rfl

theorem addE : Statement .addE := fun _ _ => rfl

theorem addH : Statement .addH := fun _ _ => rfl

theorem addL : Statement .addL := fun _ _ => rfl

theorem addAtHl : Statement .addAtHl := fun _ _ => rfl

theorem addA : Statement .addA := fun _ _ => rfl

theorem adcB : Statement .adcB := fun _ _ => rfl

theorem adcC : Statement .adcC := fun _ _ => rfl

theorem adcD : Statement .adcD := fun _ _ => rfl

theorem adcE : Statement .adcE := fun _ _ => rfl

theorem adcH : Statement .adcH := fun _ _ => rfl

theorem adcL : Statement .adcL := fun _ _ => rfl

theorem adcAtHl : Statement .adcAtHl := fun _ _ => rfl

theorem adcA : Statement .adcA := fun _ _ => rfl

theorem subB : Statement .subB := fun _ _ => rfl

theorem subC : Statement .subC := fun _ _ => rfl

theorem subD : Statement .subD := fun _ _ => rfl

theorem subE : Statement .subE := fun _ _ => rfl

theorem subH : Statement .subH := fun _ _ => rfl

theorem subL : Statement .subL := fun _ _ => rfl

theorem subAtHl : Statement .subAtHl := fun _ _ => rfl

theorem subA : Statement .subA := fun _ _ => rfl

theorem sbcB : Statement .sbcB := fun _ _ => rfl

theorem sbcC : Statement .sbcC := fun _ _ => rfl

theorem sbcD : Statement .sbcD := fun _ _ => rfl

theorem sbcE : Statement .sbcE := fun _ _ => rfl

theorem sbcH : Statement .sbcH := fun _ _ => rfl

theorem sbcL : Statement .sbcL := fun _ _ => rfl

theorem sbcAtHl : Statement .sbcAtHl := fun _ _ => rfl

theorem sbcA : Statement .sbcA := fun _ _ => rfl

theorem andB : Statement .andB := fun _ _ => rfl

theorem andC : Statement .andC := fun _ _ => rfl

theorem andD : Statement .andD := fun _ _ => rfl

theorem andE : Statement .andE := fun _ _ => rfl

theorem andH : Statement .andH := fun _ _ => rfl

theorem andL : Statement .andL := fun _ _ => rfl

theorem andAtHl : Statement .andAtHl := fun _ _ => rfl

theorem andA : Statement .andA := fun _ _ => rfl

theorem xorB : Statement .xorB := fun _ _ => rfl

theorem xorC : Statement .xorC := fun _ _ => rfl

theorem xorD : Statement .xorD := fun _ _ => rfl

theorem xorE : Statement .xorE := fun _ _ => rfl

theorem xorH : Statement .xorH := fun _ _ => rfl

theorem xorL : Statement .xorL := fun _ _ => rfl

theorem xorAtHl : Statement .xorAtHl := fun _ _ => rfl

theorem xorA : Statement .xorA := fun _ _ => rfl

theorem orB : Statement .orB := fun _ _ => rfl

theorem orC : Statement .orC := fun _ _ => rfl

theorem orD : Statement .orD := fun _ _ => rfl

theorem orE : Statement .orE := fun _ _ => rfl

theorem orH : Statement .orH := fun _ _ => rfl

theorem orL : Statement .orL := fun _ _ => rfl

theorem orAtHl : Statement .orAtHl := fun _ _ => rfl

theorem orA : Statement .orA := fun _ _ => rfl

theorem cpB : Statement .cpB := fun _ _ => rfl

theorem cpC : Statement .cpC := fun _ _ => rfl

theorem cpD : Statement .cpD := fun _ _ => rfl

theorem cpE : Statement .cpE := fun _ _ => rfl

theorem cpH : Statement .cpH := fun _ _ => rfl

theorem cpL : Statement .cpL := fun _ _ => rfl

theorem cpAtHl : Statement .cpAtHl := fun _ _ => rfl

theorem cpA : Statement .cpA := fun _ _ => rfl

theorem retNz : Statement .retNz := fun _ _ => rfl

theorem popBc : Statement .popBc := fun _ _ => rfl

theorem jpNzN16 (n16 : Word) : Statement (.jpNzN16 n16) := fun _ rest => word .jpNzN16 n16 rest

theorem jpN16 (n16 : Word) : Statement (.jpN16 n16) := fun _ rest => word .jpN16 n16 rest

theorem callNzN16 (n16 : Word) : Statement (.callNzN16 n16) := fun _ rest => word .callNzN16 n16 rest

theorem pushBc : Statement .pushBc := fun _ _ => rfl

theorem addN8 (n8 : Byte) : Statement (.addN8 n8) := fun _ _ => rfl

theorem rst00 : Statement .rst00 := fun _ _ => rfl

theorem retZ : Statement .retZ := fun _ _ => rfl

theorem ret : Statement .ret := fun _ _ => rfl

theorem jpZN16 (n16 : Word) : Statement (.jpZN16 n16) := fun _ rest => word .jpZN16 n16 rest

theorem prefixCb (ext : Byte) : Statement (.prefixCb ext) := fun h => absurd h Bool.false_ne_true

theorem callZN16 (n16 : Word) : Statement (.callZN16 n16) := fun _ rest => word .callZN16 n16 rest

theorem callN16 (n16 : Word) : Statement (.callN16 n16) := fun _ rest => word .callN16 n16 rest

theorem adcN8 (n8 : Byte) : Statement (.adcN8 n8) := fun _ _ => rfl

theorem rst08 : Statement .rst08 := fun _ _ => rfl

theorem retNc : Statement .retNc := fun _ _ => rfl

theorem popDe : Statement .popDe := fun _ _ => rfl

theorem jpNcN16 (n16 : Word) : Statement (.jpNcN16 n16) := fun _ rest => word .jpNcN16 n16 rest

theorem illegalD3 : Statement .illegalD3 := fun _ _ => rfl

theorem callNcN16 (n16 : Word) : Statement (.callNcN16 n16) := fun _ rest => word .callNcN16 n16 rest

theorem pushDe : Statement .pushDe := fun _ _ => rfl

theorem subN8 (n8 : Byte) : Statement (.subN8 n8) := fun _ _ => rfl

theorem rst10 : Statement .rst10 := fun _ _ => rfl

theorem retC : Statement .retC := fun _ _ => rfl

theorem reti : Statement .reti := fun _ _ => rfl

theorem jpCN16 (n16 : Word) : Statement (.jpCN16 n16) := fun _ rest => word .jpCN16 n16 rest

theorem illegalDB : Statement .illegalDB := fun _ _ => rfl

theorem callCN16 (n16 : Word) : Statement (.callCN16 n16) := fun _ rest => word .callCN16 n16 rest

theorem illegalDD : Statement .illegalDD := fun _ _ => rfl

theorem sbcN8 (n8 : Byte) : Statement (.sbcN8 n8) := fun _ _ => rfl

theorem rst18 : Statement .rst18 := fun _ _ => rfl

theorem ldhAtN8A (n8 : Byte) : Statement (.ldhAtN8A n8) := fun _ _ => rfl

theorem popHl : Statement .popHl := fun _ _ => rfl

theorem ldhAtCA : Statement .ldhAtCA := fun _ _ => rfl

theorem illegalE3 : Statement .illegalE3 := fun _ _ => rfl

theorem illegalE4 : Statement .illegalE4 := fun _ _ => rfl

theorem pushHl : Statement .pushHl := fun _ _ => rfl

theorem andN8 (n8 : Byte) : Statement (.andN8 n8) := fun _ _ => rfl

theorem rst20 : Statement .rst20 := fun _ _ => rfl

theorem addSpE8 (e8 : Byte) : Statement (.addSpE8 e8) := fun _ _ => rfl

theorem jpHl : Statement .jpHl := fun _ _ => rfl

theorem ldAtN16A (n16 : Word) : Statement (.ldAtN16A n16) := fun _ rest => word .ldAtN16A n16 rest

theorem illegalEB : Statement .illegalEB := fun _ _ => rfl

theorem illegalEC : Statement .illegalEC := fun _ _ => rfl

theorem illegalED : Statement .illegalED := fun _ _ => rfl

theorem xorN8 (n8 : Byte) : Statement (.xorN8 n8) := fun _ _ => rfl

theorem rst28 : Statement .rst28 := fun _ _ => rfl

theorem ldhAAtN8 (n8 : Byte) : Statement (.ldhAAtN8 n8) := fun _ _ => rfl

theorem popAf : Statement .popAf := fun _ _ => rfl

theorem ldhAAtC : Statement .ldhAAtC := fun _ _ => rfl

theorem di : Statement .di := fun _ _ => rfl

theorem illegalF4 : Statement .illegalF4 := fun _ _ => rfl

theorem pushAf : Statement .pushAf := fun _ _ => rfl

theorem orN8 (n8 : Byte) : Statement (.orN8 n8) := fun _ _ => rfl

theorem rst30 : Statement .rst30 := fun _ _ => rfl

theorem ldHlSpE8 (e8 : Byte) : Statement (.ldHlSpE8 e8) := fun _ _ => rfl

theorem ldSpHl : Statement .ldSpHl := fun _ _ => rfl

theorem ldAAtN16 (n16 : Word) : Statement (.ldAAtN16 n16) := fun _ rest => word .ldAAtN16 n16 rest

theorem ei : Statement .ei := fun _ _ => rfl

theorem illegalFC : Statement .illegalFC := fun _ _ => rfl

theorem illegalFD : Statement .illegalFD := fun _ _ => rfl

theorem cpN8 (n8 : Byte) : Statement (.cpN8 n8) := fun _ _ => rfl

theorem rst38 : Statement .rst38 := fun _ _ => rfl

theorem rlcB : Statement .rlcB := fun _ _ => rfl

theorem rlcC : Statement .rlcC := fun _ _ => rfl

theorem rlcD : Statement .rlcD := fun _ _ => rfl

theorem rlcE : Statement .rlcE := fun _ _ => rfl

theorem rlcH : Statement .rlcH := fun _ _ => rfl

theorem rlcL : Statement .rlcL := fun _ _ => rfl

theorem rlcAtHl : Statement .rlcAtHl := fun _ _ => rfl

theorem rlcA : Statement .rlcA := fun _ _ => rfl

theorem rrcB : Statement .rrcB := fun _ _ => rfl

theorem rrcC : Statement .rrcC := fun _ _ => rfl

theorem rrcD : Statement .rrcD := fun _ _ => rfl

theorem rrcE : Statement .rrcE := fun _ _ => rfl

theorem rrcH : Statement .rrcH := fun _ _ => rfl

theorem rrcL : Statement .rrcL := fun _ _ => rfl

theorem rrcAtHl : Statement .rrcAtHl := fun _ _ => rfl

theorem rrcA : Statement .rrcA := fun _ _ => rfl

theorem rlB : Statement .rlB := fun _ _ => rfl

theorem rlC : Statement .rlC := fun _ _ => rfl

theorem rlD : Statement .rlD := fun _ _ => rfl

theorem rlE : Statement .rlE := fun _ _ => rfl

theorem rlH : Statement .rlH := fun _ _ => rfl

theorem rlL : Statement .rlL := fun _ _ => rfl

theorem rlAtHl : Statement .rlAtHl := fun _ _ => rfl

theorem rlA : Statement .rlA := fun _ _ => rfl

theorem rrB : Statement .rrB := fun _ _ => rfl

theorem rrC : Statement .rrC := fun _ _ => rfl

theorem rrD : Statement .rrD := fun _ _ => rfl

theorem rrE : Statement .rrE := fun _ _ => rfl

theorem rrH : Statement .rrH := fun _ _ => rfl

theorem rrL : Statement .rrL := fun _ _ => rfl

theorem rrAtHl : Statement .rrAtHl := fun _ _ => rfl

theorem rrA : Statement .rrA := fun _ _ => rfl

theorem slaB : Statement .slaB := fun _ _ => rfl

theorem slaC : Statement .slaC := fun _ _ => rfl

theorem slaD : Statement .slaD := fun _ _ => rfl

theorem slaE : Statement .slaE := fun _ _ => rfl

theorem slaH : Statement .slaH := fun _ _ => rfl

theorem slaL : Statement .slaL := fun _ _ => rfl

theorem slaAtHl : Statement .slaAtHl := fun _ _ => rfl

theorem slaA : Statement .slaA := fun _ _ => rfl

theorem sraB : Statement .sraB := fun _ _ => rfl

theorem sraC : Statement .sraC := fun _ _ => rfl

theorem sraD : Statement .sraD := fun _ _ => rfl

theorem sraE : Statement .sraE := fun _ _ => rfl

theorem sraH : Statement .sraH := fun _ _ => rfl

theorem sraL : Statement .sraL := fun _ _ => rfl

theorem sraAtHl : Statement .sraAtHl := fun _ _ => rfl

theorem sraA : Statement .sraA := fun _ _ => rfl

theorem swapB : Statement .swapB := fun _ _ => rfl

theorem swapC : Statement .swapC := fun _ _ => rfl

theorem swapD : Statement .swapD := fun _ _ => rfl

theorem swapE : Statement .swapE := fun _ _ => rfl

theorem swapH : Statement .swapH := fun _ _ => rfl

theorem swapL : Statement .swapL := fun _ _ => rfl

theorem swapAtHl : Statement .swapAtHl := fun _ _ => rfl

theorem swapA : Statement .swapA := fun _ _ => rfl

theorem srlB : Statement .srlB := fun _ _ => rfl

theorem srlC : Statement .srlC := fun _ _ => rfl

theorem srlD : Statement .srlD := fun _ _ => rfl

theorem srlE : Statement .srlE := fun _ _ => rfl

theorem srlH : Statement .srlH := fun _ _ => rfl

theorem srlL : Statement .srlL := fun _ _ => rfl

theorem srlAtHl : Statement .srlAtHl := fun _ _ => rfl

theorem srlA : Statement .srlA := fun _ _ => rfl

theorem bit0B : Statement .bit0B := fun _ _ => rfl

theorem bit0C : Statement .bit0C := fun _ _ => rfl

theorem bit0D : Statement .bit0D := fun _ _ => rfl

theorem bit0E : Statement .bit0E := fun _ _ => rfl

theorem bit0H : Statement .bit0H := fun _ _ => rfl

theorem bit0L : Statement .bit0L := fun _ _ => rfl

theorem bit0AtHl : Statement .bit0AtHl := fun _ _ => rfl

theorem bit0A : Statement .bit0A := fun _ _ => rfl

theorem bit1B : Statement .bit1B := fun _ _ => rfl

theorem bit1C : Statement .bit1C := fun _ _ => rfl

theorem bit1D : Statement .bit1D := fun _ _ => rfl

theorem bit1E : Statement .bit1E := fun _ _ => rfl

theorem bit1H : Statement .bit1H := fun _ _ => rfl

theorem bit1L : Statement .bit1L := fun _ _ => rfl

theorem bit1AtHl : Statement .bit1AtHl := fun _ _ => rfl

theorem bit1A : Statement .bit1A := fun _ _ => rfl

theorem bit2B : Statement .bit2B := fun _ _ => rfl

theorem bit2C : Statement .bit2C := fun _ _ => rfl

theorem bit2D : Statement .bit2D := fun _ _ => rfl

theorem bit2E : Statement .bit2E := fun _ _ => rfl

theorem bit2H : Statement .bit2H := fun _ _ => rfl

theorem bit2L : Statement .bit2L := fun _ _ => rfl

theorem bit2AtHl : Statement .bit2AtHl := fun _ _ => rfl

theorem bit2A : Statement .bit2A := fun _ _ => rfl

theorem bit3B : Statement .bit3B := fun _ _ => rfl

theorem bit3C : Statement .bit3C := fun _ _ => rfl

theorem bit3D : Statement .bit3D := fun _ _ => rfl

theorem bit3E : Statement .bit3E := fun _ _ => rfl

theorem bit3H : Statement .bit3H := fun _ _ => rfl

theorem bit3L : Statement .bit3L := fun _ _ => rfl

theorem bit3AtHl : Statement .bit3AtHl := fun _ _ => rfl

theorem bit3A : Statement .bit3A := fun _ _ => rfl

theorem bit4B : Statement .bit4B := fun _ _ => rfl

theorem bit4C : Statement .bit4C := fun _ _ => rfl

theorem bit4D : Statement .bit4D := fun _ _ => rfl

theorem bit4E : Statement .bit4E := fun _ _ => rfl

theorem bit4H : Statement .bit4H := fun _ _ => rfl

theorem bit4L : Statement .bit4L := fun _ _ => rfl

theorem bit4AtHl : Statement .bit4AtHl := fun _ _ => rfl

theorem bit4A : Statement .bit4A := fun _ _ => rfl

theorem bit5B : Statement .bit5B := fun _ _ => rfl

theorem bit5C : Statement .bit5C := fun _ _ => rfl

theorem bit5D : Statement .bit5D := fun _ _ => rfl

theorem bit5E : Statement .bit5E := fun _ _ => rfl

theorem bit5H : Statement .bit5H := fun _ _ => rfl

theorem bit5L : Statement .bit5L := fun _ _ => rfl

theorem bit5AtHl : Statement .bit5AtHl := fun _ _ => rfl

theorem bit5A : Statement .bit5A := fun _ _ => rfl

theorem bit6B : Statement .bit6B := fun _ _ => rfl

theorem bit6C : Statement .bit6C := fun _ _ => rfl

theorem bit6D : Statement .bit6D := fun _ _ => rfl

theorem bit6E : Statement .bit6E := fun _ _ => rfl

theorem bit6H : Statement .bit6H := fun _ _ => rfl

theorem bit6L : Statement .bit6L := fun _ _ => rfl

theorem bit6AtHl : Statement .bit6AtHl := fun _ _ => rfl

theorem bit6A : Statement .bit6A := fun _ _ => rfl

theorem bit7B : Statement .bit7B := fun _ _ => rfl

theorem bit7C : Statement .bit7C := fun _ _ => rfl

theorem bit7D : Statement .bit7D := fun _ _ => rfl

theorem bit7E : Statement .bit7E := fun _ _ => rfl

theorem bit7H : Statement .bit7H := fun _ _ => rfl

theorem bit7L : Statement .bit7L := fun _ _ => rfl

theorem bit7AtHl : Statement .bit7AtHl := fun _ _ => rfl

theorem bit7A : Statement .bit7A := fun _ _ => rfl

theorem res0B : Statement .res0B := fun _ _ => rfl

theorem res0C : Statement .res0C := fun _ _ => rfl

theorem res0D : Statement .res0D := fun _ _ => rfl

theorem res0E : Statement .res0E := fun _ _ => rfl

theorem res0H : Statement .res0H := fun _ _ => rfl

theorem res0L : Statement .res0L := fun _ _ => rfl

theorem res0AtHl : Statement .res0AtHl := fun _ _ => rfl

theorem res0A : Statement .res0A := fun _ _ => rfl

theorem res1B : Statement .res1B := fun _ _ => rfl

theorem res1C : Statement .res1C := fun _ _ => rfl

theorem res1D : Statement .res1D := fun _ _ => rfl

theorem res1E : Statement .res1E := fun _ _ => rfl

theorem res1H : Statement .res1H := fun _ _ => rfl

theorem res1L : Statement .res1L := fun _ _ => rfl

theorem res1AtHl : Statement .res1AtHl := fun _ _ => rfl

theorem res1A : Statement .res1A := fun _ _ => rfl

theorem res2B : Statement .res2B := fun _ _ => rfl

theorem res2C : Statement .res2C := fun _ _ => rfl

theorem res2D : Statement .res2D := fun _ _ => rfl

theorem res2E : Statement .res2E := fun _ _ => rfl

theorem res2H : Statement .res2H := fun _ _ => rfl

theorem res2L : Statement .res2L := fun _ _ => rfl

theorem res2AtHl : Statement .res2AtHl := fun _ _ => rfl

theorem res2A : Statement .res2A := fun _ _ => rfl

theorem res3B : Statement .res3B := fun _ _ => rfl

theorem res3C : Statement .res3C := fun _ _ => rfl

theorem res3D : Statement .res3D := fun _ _ => rfl

theorem res3E : Statement .res3E := fun _ _ => rfl

theorem res3H : Statement .res3H := fun _ _ => rfl

theorem res3L : Statement .res3L := fun _ _ => rfl

theorem res3AtHl : Statement .res3AtHl := fun _ _ => rfl

theorem res3A : Statement .res3A := fun _ _ => rfl

theorem res4B : Statement .res4B := fun _ _ => rfl

theorem res4C : Statement .res4C := fun _ _ => rfl

theorem res4D : Statement .res4D := fun _ _ => rfl

theorem res4E : Statement .res4E := fun _ _ => rfl

theorem res4H : Statement .res4H := fun _ _ => rfl

theorem res4L : Statement .res4L := fun _ _ => rfl

theorem res4AtHl : Statement .res4AtHl := fun _ _ => rfl

theorem res4A : Statement .res4A := fun _ _ => rfl

theorem res5B : Statement .res5B := fun _ _ => rfl

theorem res5C : Statement .res5C := fun _ _ => rfl

theorem res5D : Statement .res5D := fun _ _ => rfl

theorem res5E : Statement .res5E := fun _ _ => rfl

theorem res5H : Statement .res5H := fun _ _ => rfl

theorem res5L : Statement .res5L := fun _ _ => rfl

theorem res5AtHl : Statement .res5AtHl := fun _ _ => rfl

theorem res5A : Statement .res5A := fun _ _ => rfl

theorem res6B : Statement .res6B := fun _ _ => rfl

theorem res6C : Statement .res6C := fun _ _ => rfl

theorem res6D : Statement .res6D := fun _ _ => rfl

theorem res6E : Statement .res6E := fun _ _ => rfl

theorem res6H : Statement .res6H := fun _ _ => rfl

theorem res6L : Statement .res6L := fun _ _ => rfl

theorem res6AtHl : Statement .res6AtHl := fun _ _ => rfl

theorem res6A : Statement .res6A := fun _ _ => rfl

theorem res7B : Statement .res7B := fun _ _ => rfl

theorem res7C : Statement .res7C := fun _ _ => rfl

theorem res7D : Statement .res7D := fun _ _ => rfl

theorem res7E : Statement .res7E := fun _ _ => rfl

theorem res7H : Statement .res7H := fun _ _ => rfl

theorem res7L : Statement .res7L := fun _ _ => rfl

theorem res7AtHl : Statement .res7AtHl := fun _ _ => rfl

theorem res7A : Statement .res7A := fun _ _ => rfl

theorem set0B : Statement .set0B := fun _ _ => rfl

theorem set0C : Statement .set0C := fun _ _ => rfl

theorem set0D : Statement .set0D := fun _ _ => rfl

theorem set0E : Statement .set0E := fun _ _ => rfl

theorem set0H : Statement .set0H := fun _ _ => rfl

theorem set0L : Statement .set0L := fun _ _ => rfl

theorem set0AtHl : Statement .set0AtHl := fun _ _ => rfl

theorem set0A : Statement .set0A := fun _ _ => rfl

theorem set1B : Statement .set1B := fun _ _ => rfl

theorem set1C : Statement .set1C := fun _ _ => rfl

theorem set1D : Statement .set1D := fun _ _ => rfl

theorem set1E : Statement .set1E := fun _ _ => rfl

theorem set1H : Statement .set1H := fun _ _ => rfl

theorem set1L : Statement .set1L := fun _ _ => rfl

theorem set1AtHl : Statement .set1AtHl := fun _ _ => rfl

theorem set1A : Statement .set1A := fun _ _ => rfl

theorem set2B : Statement .set2B := fun _ _ => rfl

theorem set2C : Statement .set2C := fun _ _ => rfl

theorem set2D : Statement .set2D := fun _ _ => rfl

theorem set2E : Statement .set2E := fun _ _ => rfl

theorem set2H : Statement .set2H := fun _ _ => rfl

theorem set2L : Statement .set2L := fun _ _ => rfl

theorem set2AtHl : Statement .set2AtHl := fun _ _ => rfl

theorem set2A : Statement .set2A := fun _ _ => rfl

theorem set3B : Statement .set3B := fun _ _ => rfl

theorem set3C : Statement .set3C := fun _ _ => rfl

theorem set3D : Statement .set3D := fun _ _ => rfl

theorem set3E : Statement .set3E := fun _ _ => rfl

theorem set3H : Statement .set3H := fun _ _ => rfl

theorem set3L : Statement .set3L := fun _ _ => rfl

theorem set3AtHl : Statement .set3AtHl := fun _ _ => rfl

theorem set3A : Statement .set3A := fun _ _ => rfl

theorem set4B : Statement .set4B := fun _ _ => rfl

theorem set4C : Statement .set4C := fun _ _ => rfl

theorem set4D : Statement .set4D := fun _ _ => rfl

theorem set4E : Statement .set4E := fun _ _ => rfl

theorem set4H : Statement .set4H := fun _ _ => rfl

theorem set4L : Statement .set4L := fun _ _ => rfl

theorem set4AtHl : Statement .set4AtHl := fun _ _ => rfl

theorem set4A : Statement .set4A := fun _ _ => rfl

theorem set5B : Statement .set5B := fun _ _ => rfl

theorem set5C : Statement .set5C := fun _ _ => rfl

theorem set5D : Statement .set5D := fun _ _ => rfl

theorem set5E : Statement .set5E := fun _ _ => rfl

theorem set5H : Statement .set5H := fun _ _ => rfl

theorem set5L : Statement .set5L := fun _ _ => rfl

theorem set5AtHl : Statement .set5AtHl := fun _ _ => rfl

theorem set5A : Statement .set5A := fun _ _ => rfl

theorem set6B : Statement .set6B := fun _ _ => rfl

theorem set6C : Statement .set6C := fun _ _ => rfl

theorem set6D : Statement .set6D := fun _ _ => rfl

theorem set6E : Statement .set6E := fun _ _ => rfl

theorem set6H : Statement .set6H := fun _ _ => rfl

theorem set6L : Statement .set6L := fun _ _ => rfl

theorem set6AtHl : Statement .set6AtHl := fun _ _ => rfl

theorem set6A : Statement .set6A := fun _ _ => rfl

theorem set7B : Statement .set7B := fun _ _ => rfl

theorem set7C : Statement .set7C := fun _ _ => rfl

theorem set7D : Statement .set7D := fun _ _ => rfl

theorem set7E : Statement .set7E := fun _ _ => rfl

theorem set7H : Statement .set7H := fun _ _ => rfl

theorem set7L : Statement .set7L := fun _ _ => rfl

theorem set7AtHl : Statement .set7AtHl := fun _ _ => rfl

theorem set7A : Statement .set7A := fun _ _ => rfl

end Sys2Proof.Laws.RoundTrip
end

