-- ==== Sys2Proof/Tests/Slice0.lean ====
section
/-! SUPPORT. Own checks: the ill-formed term, the decoding of every row from its word, one step of each rule with the
result of spec/95_test_vectors.md, and the witnesses of the statements' hypotheses. -/

namespace Sys2Proof.Tests

open Sys2Proof.Machine

/-! ### Well-formedness (R285) -/

theorem test_prefix_alone_refused : (Instr.prefixCb 0x37#8).wf = false := by decide

theorem test_decoded_rows_accepted : (Instr.wf .nop && Instr.wf (.ldBN8 0xFF#8) && Instr.wf .illegalDD && Instr.wf .set7A) = true := by
  decide

/-! ### Decoding: sixteen words a theorem, bit by bit as the encodings of R120 to R286 give them (R103, R104) -/

theorem test_decode_primary_0 :
    [
      decodeTableWord 8 0b00000000, decodeTableWord 8 0b00000001, decodeTableWord 8 0b00000010,
      decodeTableWord 8 0b00000011, decodeTableWord 8 0b00000100, decodeTableWord 8 0b00000101,
      decodeTableWord 8 0b00000110, decodeTableWord 8 0b00000111, decodeTableWord 8 0b00001000,
      decodeTableWord 8 0b00001001, decodeTableWord 8 0b00001010, decodeTableWord 8 0b00001011,
      decodeTableWord 8 0b00001100, decodeTableWord 8 0b00001101, decodeTableWord 8 0b00001110,
      decodeTableWord 8 0b00001111] =
    [
      some .nop, some (.ldBcN16 0x0000#16), some .ldAtBcA, some .incBc, some .incB, some .decB,
      some (.ldBN8 0x00#8), some .rlca, some (.ldAtN16Sp 0x0000#16), some .addHlBc, some .ldAAtBc, some .decBc,
      some .incC, some .decC, some (.ldCN8 0x00#8), some .rrca] := rfl

theorem test_decode_primary_1 :
    [
      decodeTableWord 8 0b00010000, decodeTableWord 8 0b00010001, decodeTableWord 8 0b00010010,
      decodeTableWord 8 0b00010011, decodeTableWord 8 0b00010100, decodeTableWord 8 0b00010101,
      decodeTableWord 8 0b00010110, decodeTableWord 8 0b00010111, decodeTableWord 8 0b00011000,
      decodeTableWord 8 0b00011001, decodeTableWord 8 0b00011010, decodeTableWord 8 0b00011011,
      decodeTableWord 8 0b00011100, decodeTableWord 8 0b00011101, decodeTableWord 8 0b00011110,
      decodeTableWord 8 0b00011111] =
    [
      some (.stop 0x00#8), some (.ldDeN16 0x0000#16), some .ldAtDeA, some .incDe, some .incD, some .decD,
      some (.ldDN8 0x00#8), some .rla, some (.jrE8 0x00#8), some .addHlDe, some .ldAAtDe, some .decDe, some .incE,
      some .decE, some (.ldEN8 0x00#8), some .rra] := rfl

theorem test_decode_primary_2 :
    [
      decodeTableWord 8 0b00100000, decodeTableWord 8 0b00100001, decodeTableWord 8 0b00100010,
      decodeTableWord 8 0b00100011, decodeTableWord 8 0b00100100, decodeTableWord 8 0b00100101,
      decodeTableWord 8 0b00100110, decodeTableWord 8 0b00100111, decodeTableWord 8 0b00101000,
      decodeTableWord 8 0b00101001, decodeTableWord 8 0b00101010, decodeTableWord 8 0b00101011,
      decodeTableWord 8 0b00101100, decodeTableWord 8 0b00101101, decodeTableWord 8 0b00101110,
      decodeTableWord 8 0b00101111] =
    [
      some (.jrNzE8 0x00#8), some (.ldHlN16 0x0000#16), some .ldAtHliA, some .incHl, some .incH, some .decH,
      some (.ldHN8 0x00#8), some .daa, some (.jrZE8 0x00#8), some .addHlHl, some .ldAAtHli, some .decHl,
      some .incL, some .decL, some (.ldLN8 0x00#8), some .cpl] := rfl

theorem test_decode_primary_3 :
    [
      decodeTableWord 8 0b00110000, decodeTableWord 8 0b00110001, decodeTableWord 8 0b00110010,
      decodeTableWord 8 0b00110011, decodeTableWord 8 0b00110100, decodeTableWord 8 0b00110101,
      decodeTableWord 8 0b00110110, decodeTableWord 8 0b00110111, decodeTableWord 8 0b00111000,
      decodeTableWord 8 0b00111001, decodeTableWord 8 0b00111010, decodeTableWord 8 0b00111011,
      decodeTableWord 8 0b00111100, decodeTableWord 8 0b00111101, decodeTableWord 8 0b00111110,
      decodeTableWord 8 0b00111111] =
    [
      some (.jrNcE8 0x00#8), some (.ldSpN16 0x0000#16), some .ldAtHldA, some .incSp, some .incAtHl, some .decAtHl,
      some (.ldAtHlN8 0x00#8), some .scf, some (.jrCE8 0x00#8), some .addHlSp, some .ldAAtHld, some .decSp,
      some .incA, some .decA, some (.ldAN8 0x00#8), some .ccf] := rfl

theorem test_decode_primary_4 :
    [
      decodeTableWord 8 0b01000000, decodeTableWord 8 0b01000001, decodeTableWord 8 0b01000010,
      decodeTableWord 8 0b01000011, decodeTableWord 8 0b01000100, decodeTableWord 8 0b01000101,
      decodeTableWord 8 0b01000110, decodeTableWord 8 0b01000111, decodeTableWord 8 0b01001000,
      decodeTableWord 8 0b01001001, decodeTableWord 8 0b01001010, decodeTableWord 8 0b01001011,
      decodeTableWord 8 0b01001100, decodeTableWord 8 0b01001101, decodeTableWord 8 0b01001110,
      decodeTableWord 8 0b01001111] =
    [
      some .ldBB, some .ldBC, some .ldBD, some .ldBE, some .ldBH, some .ldBL, some .ldBAtHl, some .ldBA,
      some .ldCB, some .ldCC, some .ldCD, some .ldCE, some .ldCH, some .ldCL, some .ldCAtHl, some .ldCA] := rfl

theorem test_decode_primary_5 :
    [
      decodeTableWord 8 0b01010000, decodeTableWord 8 0b01010001, decodeTableWord 8 0b01010010,
      decodeTableWord 8 0b01010011, decodeTableWord 8 0b01010100, decodeTableWord 8 0b01010101,
      decodeTableWord 8 0b01010110, decodeTableWord 8 0b01010111, decodeTableWord 8 0b01011000,
      decodeTableWord 8 0b01011001, decodeTableWord 8 0b01011010, decodeTableWord 8 0b01011011,
      decodeTableWord 8 0b01011100, decodeTableWord 8 0b01011101, decodeTableWord 8 0b01011110,
      decodeTableWord 8 0b01011111] =
    [
      some .ldDB, some .ldDC, some .ldDD, some .ldDE, some .ldDH, some .ldDL, some .ldDAtHl, some .ldDA,
      some .ldEB, some .ldEC, some .ldED, some .ldEE, some .ldEH, some .ldEL, some .ldEAtHl, some .ldEA] := rfl

theorem test_decode_primary_6 :
    [
      decodeTableWord 8 0b01100000, decodeTableWord 8 0b01100001, decodeTableWord 8 0b01100010,
      decodeTableWord 8 0b01100011, decodeTableWord 8 0b01100100, decodeTableWord 8 0b01100101,
      decodeTableWord 8 0b01100110, decodeTableWord 8 0b01100111, decodeTableWord 8 0b01101000,
      decodeTableWord 8 0b01101001, decodeTableWord 8 0b01101010, decodeTableWord 8 0b01101011,
      decodeTableWord 8 0b01101100, decodeTableWord 8 0b01101101, decodeTableWord 8 0b01101110,
      decodeTableWord 8 0b01101111] =
    [
      some .ldHB, some .ldHC, some .ldHD, some .ldHE, some .ldHH, some .ldHL, some .ldHAtHl, some .ldHA,
      some .ldLB, some .ldLC, some .ldLD, some .ldLE, some .ldLH, some .ldLL, some .ldLAtHl, some .ldLA] := rfl

theorem test_decode_primary_7 :
    [
      decodeTableWord 8 0b01110000, decodeTableWord 8 0b01110001, decodeTableWord 8 0b01110010,
      decodeTableWord 8 0b01110011, decodeTableWord 8 0b01110100, decodeTableWord 8 0b01110101,
      decodeTableWord 8 0b01110110, decodeTableWord 8 0b01110111, decodeTableWord 8 0b01111000,
      decodeTableWord 8 0b01111001, decodeTableWord 8 0b01111010, decodeTableWord 8 0b01111011,
      decodeTableWord 8 0b01111100, decodeTableWord 8 0b01111101, decodeTableWord 8 0b01111110,
      decodeTableWord 8 0b01111111] =
    [
      some .ldAtHlB, some .ldAtHlC, some .ldAtHlD, some .ldAtHlE, some .ldAtHlH, some .ldAtHlL, some .halt,
      some .ldAtHlA, some .ldAB, some .ldAC, some .ldAD, some .ldAE, some .ldAH, some .ldAL, some .ldAAtHl,
      some .ldAA] := rfl

theorem test_decode_primary_8 :
    [
      decodeTableWord 8 0b10000000, decodeTableWord 8 0b10000001, decodeTableWord 8 0b10000010,
      decodeTableWord 8 0b10000011, decodeTableWord 8 0b10000100, decodeTableWord 8 0b10000101,
      decodeTableWord 8 0b10000110, decodeTableWord 8 0b10000111, decodeTableWord 8 0b10001000,
      decodeTableWord 8 0b10001001, decodeTableWord 8 0b10001010, decodeTableWord 8 0b10001011,
      decodeTableWord 8 0b10001100, decodeTableWord 8 0b10001101, decodeTableWord 8 0b10001110,
      decodeTableWord 8 0b10001111] =
    [
      some .addB, some .addC, some .addD, some .addE, some .addH, some .addL, some .addAtHl, some .addA,
      some .adcB, some .adcC, some .adcD, some .adcE, some .adcH, some .adcL, some .adcAtHl, some .adcA] := rfl

theorem test_decode_primary_9 :
    [
      decodeTableWord 8 0b10010000, decodeTableWord 8 0b10010001, decodeTableWord 8 0b10010010,
      decodeTableWord 8 0b10010011, decodeTableWord 8 0b10010100, decodeTableWord 8 0b10010101,
      decodeTableWord 8 0b10010110, decodeTableWord 8 0b10010111, decodeTableWord 8 0b10011000,
      decodeTableWord 8 0b10011001, decodeTableWord 8 0b10011010, decodeTableWord 8 0b10011011,
      decodeTableWord 8 0b10011100, decodeTableWord 8 0b10011101, decodeTableWord 8 0b10011110,
      decodeTableWord 8 0b10011111] =
    [
      some .subB, some .subC, some .subD, some .subE, some .subH, some .subL, some .subAtHl, some .subA,
      some .sbcB, some .sbcC, some .sbcD, some .sbcE, some .sbcH, some .sbcL, some .sbcAtHl, some .sbcA] := rfl

theorem test_decode_primary_A :
    [
      decodeTableWord 8 0b10100000, decodeTableWord 8 0b10100001, decodeTableWord 8 0b10100010,
      decodeTableWord 8 0b10100011, decodeTableWord 8 0b10100100, decodeTableWord 8 0b10100101,
      decodeTableWord 8 0b10100110, decodeTableWord 8 0b10100111, decodeTableWord 8 0b10101000,
      decodeTableWord 8 0b10101001, decodeTableWord 8 0b10101010, decodeTableWord 8 0b10101011,
      decodeTableWord 8 0b10101100, decodeTableWord 8 0b10101101, decodeTableWord 8 0b10101110,
      decodeTableWord 8 0b10101111] =
    [
      some .andB, some .andC, some .andD, some .andE, some .andH, some .andL, some .andAtHl, some .andA,
      some .xorB, some .xorC, some .xorD, some .xorE, some .xorH, some .xorL, some .xorAtHl, some .xorA] := rfl

theorem test_decode_primary_B :
    [
      decodeTableWord 8 0b10110000, decodeTableWord 8 0b10110001, decodeTableWord 8 0b10110010,
      decodeTableWord 8 0b10110011, decodeTableWord 8 0b10110100, decodeTableWord 8 0b10110101,
      decodeTableWord 8 0b10110110, decodeTableWord 8 0b10110111, decodeTableWord 8 0b10111000,
      decodeTableWord 8 0b10111001, decodeTableWord 8 0b10111010, decodeTableWord 8 0b10111011,
      decodeTableWord 8 0b10111100, decodeTableWord 8 0b10111101, decodeTableWord 8 0b10111110,
      decodeTableWord 8 0b10111111] =
    [
      some .orB, some .orC, some .orD, some .orE, some .orH, some .orL, some .orAtHl, some .orA, some .cpB,
      some .cpC, some .cpD, some .cpE, some .cpH, some .cpL, some .cpAtHl, some .cpA] := rfl

theorem test_decode_primary_C :
    [
      decodeTableWord 8 0b11000000, decodeTableWord 8 0b11000001, decodeTableWord 8 0b11000010,
      decodeTableWord 8 0b11000011, decodeTableWord 8 0b11000100, decodeTableWord 8 0b11000101,
      decodeTableWord 8 0b11000110, decodeTableWord 8 0b11000111, decodeTableWord 8 0b11001000,
      decodeTableWord 8 0b11001001, decodeTableWord 8 0b11001010, decodeTableWord 8 0b11001011,
      decodeTableWord 8 0b11001100, decodeTableWord 8 0b11001101, decodeTableWord 8 0b11001110,
      decodeTableWord 8 0b11001111] =
    [
      some .retNz, some .popBc, some (.jpNzN16 0x0000#16), some (.jpN16 0x0000#16), some (.callNzN16 0x0000#16),
      some .pushBc, some (.addN8 0x00#8), some .rst00, some .retZ, some .ret, some (.jpZN16 0x0000#16), some .rlcB,
      some (.callZN16 0x0000#16), some (.callN16 0x0000#16), some (.adcN8 0x00#8), some .rst08] := rfl

theorem test_decode_primary_D :
    [
      decodeTableWord 8 0b11010000, decodeTableWord 8 0b11010001, decodeTableWord 8 0b11010010,
      decodeTableWord 8 0b11010011, decodeTableWord 8 0b11010100, decodeTableWord 8 0b11010101,
      decodeTableWord 8 0b11010110, decodeTableWord 8 0b11010111, decodeTableWord 8 0b11011000,
      decodeTableWord 8 0b11011001, decodeTableWord 8 0b11011010, decodeTableWord 8 0b11011011,
      decodeTableWord 8 0b11011100, decodeTableWord 8 0b11011101, decodeTableWord 8 0b11011110,
      decodeTableWord 8 0b11011111] =
    [
      some .retNc, some .popDe, some (.jpNcN16 0x0000#16), some .illegalD3, some (.callNcN16 0x0000#16),
      some .pushDe, some (.subN8 0x00#8), some .rst10, some .retC, some .reti, some (.jpCN16 0x0000#16),
      some .illegalDB, some (.callCN16 0x0000#16), some .illegalDD, some (.sbcN8 0x00#8), some .rst18] := rfl

theorem test_decode_primary_E :
    [
      decodeTableWord 8 0b11100000, decodeTableWord 8 0b11100001, decodeTableWord 8 0b11100010,
      decodeTableWord 8 0b11100011, decodeTableWord 8 0b11100100, decodeTableWord 8 0b11100101,
      decodeTableWord 8 0b11100110, decodeTableWord 8 0b11100111, decodeTableWord 8 0b11101000,
      decodeTableWord 8 0b11101001, decodeTableWord 8 0b11101010, decodeTableWord 8 0b11101011,
      decodeTableWord 8 0b11101100, decodeTableWord 8 0b11101101, decodeTableWord 8 0b11101110,
      decodeTableWord 8 0b11101111] =
    [
      some (.ldhAtN8A 0x00#8), some .popHl, some .ldhAtCA, some .illegalE3, some .illegalE4, some .pushHl,
      some (.andN8 0x00#8), some .rst20, some (.addSpE8 0x00#8), some .jpHl, some (.ldAtN16A 0x0000#16),
      some .illegalEB, some .illegalEC, some .illegalED, some (.xorN8 0x00#8), some .rst28] := rfl

theorem test_decode_primary_F :
    [
      decodeTableWord 8 0b11110000, decodeTableWord 8 0b11110001, decodeTableWord 8 0b11110010,
      decodeTableWord 8 0b11110011, decodeTableWord 8 0b11110100, decodeTableWord 8 0b11110101,
      decodeTableWord 8 0b11110110, decodeTableWord 8 0b11110111, decodeTableWord 8 0b11111000,
      decodeTableWord 8 0b11111001, decodeTableWord 8 0b11111010, decodeTableWord 8 0b11111011,
      decodeTableWord 8 0b11111100, decodeTableWord 8 0b11111101, decodeTableWord 8 0b11111110,
      decodeTableWord 8 0b11111111] =
    [
      some (.ldhAAtN8 0x00#8), some .popAf, some .ldhAAtC, some .di, some .illegalF4, some .pushAf,
      some (.orN8 0x00#8), some .rst30, some (.ldHlSpE8 0x00#8), some .ldSpHl, some (.ldAAtN16 0x0000#16),
      some .ei, some .illegalFC, some .illegalFD, some (.cpN8 0x00#8), some .rst38] := rfl

theorem test_decode_extended_0 :
    [
      decodeTableWord 16 0b1100101100000000, decodeTableWord 16 0b1100101100000001,
      decodeTableWord 16 0b1100101100000010, decodeTableWord 16 0b1100101100000011,
      decodeTableWord 16 0b1100101100000100, decodeTableWord 16 0b1100101100000101,
      decodeTableWord 16 0b1100101100000110, decodeTableWord 16 0b1100101100000111,
      decodeTableWord 16 0b1100101100001000, decodeTableWord 16 0b1100101100001001,
      decodeTableWord 16 0b1100101100001010, decodeTableWord 16 0b1100101100001011,
      decodeTableWord 16 0b1100101100001100, decodeTableWord 16 0b1100101100001101,
      decodeTableWord 16 0b1100101100001110, decodeTableWord 16 0b1100101100001111] =
    [
      some .rlcB, some .rlcC, some .rlcD, some .rlcE, some .rlcH, some .rlcL, some .rlcAtHl, some .rlcA,
      some .rrcB, some .rrcC, some .rrcD, some .rrcE, some .rrcH, some .rrcL, some .rrcAtHl, some .rrcA] := rfl

theorem test_decode_extended_1 :
    [
      decodeTableWord 16 0b1100101100010000, decodeTableWord 16 0b1100101100010001,
      decodeTableWord 16 0b1100101100010010, decodeTableWord 16 0b1100101100010011,
      decodeTableWord 16 0b1100101100010100, decodeTableWord 16 0b1100101100010101,
      decodeTableWord 16 0b1100101100010110, decodeTableWord 16 0b1100101100010111,
      decodeTableWord 16 0b1100101100011000, decodeTableWord 16 0b1100101100011001,
      decodeTableWord 16 0b1100101100011010, decodeTableWord 16 0b1100101100011011,
      decodeTableWord 16 0b1100101100011100, decodeTableWord 16 0b1100101100011101,
      decodeTableWord 16 0b1100101100011110, decodeTableWord 16 0b1100101100011111] =
    [
      some .rlB, some .rlC, some .rlD, some .rlE, some .rlH, some .rlL, some .rlAtHl, some .rlA, some .rrB,
      some .rrC, some .rrD, some .rrE, some .rrH, some .rrL, some .rrAtHl, some .rrA] := rfl

theorem test_decode_extended_2 :
    [
      decodeTableWord 16 0b1100101100100000, decodeTableWord 16 0b1100101100100001,
      decodeTableWord 16 0b1100101100100010, decodeTableWord 16 0b1100101100100011,
      decodeTableWord 16 0b1100101100100100, decodeTableWord 16 0b1100101100100101,
      decodeTableWord 16 0b1100101100100110, decodeTableWord 16 0b1100101100100111,
      decodeTableWord 16 0b1100101100101000, decodeTableWord 16 0b1100101100101001,
      decodeTableWord 16 0b1100101100101010, decodeTableWord 16 0b1100101100101011,
      decodeTableWord 16 0b1100101100101100, decodeTableWord 16 0b1100101100101101,
      decodeTableWord 16 0b1100101100101110, decodeTableWord 16 0b1100101100101111] =
    [
      some .slaB, some .slaC, some .slaD, some .slaE, some .slaH, some .slaL, some .slaAtHl, some .slaA,
      some .sraB, some .sraC, some .sraD, some .sraE, some .sraH, some .sraL, some .sraAtHl, some .sraA] := rfl

theorem test_decode_extended_3 :
    [
      decodeTableWord 16 0b1100101100110000, decodeTableWord 16 0b1100101100110001,
      decodeTableWord 16 0b1100101100110010, decodeTableWord 16 0b1100101100110011,
      decodeTableWord 16 0b1100101100110100, decodeTableWord 16 0b1100101100110101,
      decodeTableWord 16 0b1100101100110110, decodeTableWord 16 0b1100101100110111,
      decodeTableWord 16 0b1100101100111000, decodeTableWord 16 0b1100101100111001,
      decodeTableWord 16 0b1100101100111010, decodeTableWord 16 0b1100101100111011,
      decodeTableWord 16 0b1100101100111100, decodeTableWord 16 0b1100101100111101,
      decodeTableWord 16 0b1100101100111110, decodeTableWord 16 0b1100101100111111] =
    [
      some .swapB, some .swapC, some .swapD, some .swapE, some .swapH, some .swapL, some .swapAtHl, some .swapA,
      some .srlB, some .srlC, some .srlD, some .srlE, some .srlH, some .srlL, some .srlAtHl, some .srlA] := rfl

theorem test_decode_extended_4 :
    [
      decodeTableWord 16 0b1100101101000000, decodeTableWord 16 0b1100101101000001,
      decodeTableWord 16 0b1100101101000010, decodeTableWord 16 0b1100101101000011,
      decodeTableWord 16 0b1100101101000100, decodeTableWord 16 0b1100101101000101,
      decodeTableWord 16 0b1100101101000110, decodeTableWord 16 0b1100101101000111,
      decodeTableWord 16 0b1100101101001000, decodeTableWord 16 0b1100101101001001,
      decodeTableWord 16 0b1100101101001010, decodeTableWord 16 0b1100101101001011,
      decodeTableWord 16 0b1100101101001100, decodeTableWord 16 0b1100101101001101,
      decodeTableWord 16 0b1100101101001110, decodeTableWord 16 0b1100101101001111] =
    [
      some .bit0B, some .bit0C, some .bit0D, some .bit0E, some .bit0H, some .bit0L, some .bit0AtHl, some .bit0A,
      some .bit1B, some .bit1C, some .bit1D, some .bit1E, some .bit1H, some .bit1L, some .bit1AtHl, some .bit1A] := rfl

theorem test_decode_extended_5 :
    [
      decodeTableWord 16 0b1100101101010000, decodeTableWord 16 0b1100101101010001,
      decodeTableWord 16 0b1100101101010010, decodeTableWord 16 0b1100101101010011,
      decodeTableWord 16 0b1100101101010100, decodeTableWord 16 0b1100101101010101,
      decodeTableWord 16 0b1100101101010110, decodeTableWord 16 0b1100101101010111,
      decodeTableWord 16 0b1100101101011000, decodeTableWord 16 0b1100101101011001,
      decodeTableWord 16 0b1100101101011010, decodeTableWord 16 0b1100101101011011,
      decodeTableWord 16 0b1100101101011100, decodeTableWord 16 0b1100101101011101,
      decodeTableWord 16 0b1100101101011110, decodeTableWord 16 0b1100101101011111] =
    [
      some .bit2B, some .bit2C, some .bit2D, some .bit2E, some .bit2H, some .bit2L, some .bit2AtHl, some .bit2A,
      some .bit3B, some .bit3C, some .bit3D, some .bit3E, some .bit3H, some .bit3L, some .bit3AtHl, some .bit3A] := rfl

theorem test_decode_extended_6 :
    [
      decodeTableWord 16 0b1100101101100000, decodeTableWord 16 0b1100101101100001,
      decodeTableWord 16 0b1100101101100010, decodeTableWord 16 0b1100101101100011,
      decodeTableWord 16 0b1100101101100100, decodeTableWord 16 0b1100101101100101,
      decodeTableWord 16 0b1100101101100110, decodeTableWord 16 0b1100101101100111,
      decodeTableWord 16 0b1100101101101000, decodeTableWord 16 0b1100101101101001,
      decodeTableWord 16 0b1100101101101010, decodeTableWord 16 0b1100101101101011,
      decodeTableWord 16 0b1100101101101100, decodeTableWord 16 0b1100101101101101,
      decodeTableWord 16 0b1100101101101110, decodeTableWord 16 0b1100101101101111] =
    [
      some .bit4B, some .bit4C, some .bit4D, some .bit4E, some .bit4H, some .bit4L, some .bit4AtHl, some .bit4A,
      some .bit5B, some .bit5C, some .bit5D, some .bit5E, some .bit5H, some .bit5L, some .bit5AtHl, some .bit5A] := rfl

theorem test_decode_extended_7 :
    [
      decodeTableWord 16 0b1100101101110000, decodeTableWord 16 0b1100101101110001,
      decodeTableWord 16 0b1100101101110010, decodeTableWord 16 0b1100101101110011,
      decodeTableWord 16 0b1100101101110100, decodeTableWord 16 0b1100101101110101,
      decodeTableWord 16 0b1100101101110110, decodeTableWord 16 0b1100101101110111,
      decodeTableWord 16 0b1100101101111000, decodeTableWord 16 0b1100101101111001,
      decodeTableWord 16 0b1100101101111010, decodeTableWord 16 0b1100101101111011,
      decodeTableWord 16 0b1100101101111100, decodeTableWord 16 0b1100101101111101,
      decodeTableWord 16 0b1100101101111110, decodeTableWord 16 0b1100101101111111] =
    [
      some .bit6B, some .bit6C, some .bit6D, some .bit6E, some .bit6H, some .bit6L, some .bit6AtHl, some .bit6A,
      some .bit7B, some .bit7C, some .bit7D, some .bit7E, some .bit7H, some .bit7L, some .bit7AtHl, some .bit7A] := rfl

theorem test_decode_extended_8 :
    [
      decodeTableWord 16 0b1100101110000000, decodeTableWord 16 0b1100101110000001,
      decodeTableWord 16 0b1100101110000010, decodeTableWord 16 0b1100101110000011,
      decodeTableWord 16 0b1100101110000100, decodeTableWord 16 0b1100101110000101,
      decodeTableWord 16 0b1100101110000110, decodeTableWord 16 0b1100101110000111,
      decodeTableWord 16 0b1100101110001000, decodeTableWord 16 0b1100101110001001,
      decodeTableWord 16 0b1100101110001010, decodeTableWord 16 0b1100101110001011,
      decodeTableWord 16 0b1100101110001100, decodeTableWord 16 0b1100101110001101,
      decodeTableWord 16 0b1100101110001110, decodeTableWord 16 0b1100101110001111] =
    [
      some .res0B, some .res0C, some .res0D, some .res0E, some .res0H, some .res0L, some .res0AtHl, some .res0A,
      some .res1B, some .res1C, some .res1D, some .res1E, some .res1H, some .res1L, some .res1AtHl, some .res1A] := rfl

theorem test_decode_extended_9 :
    [
      decodeTableWord 16 0b1100101110010000, decodeTableWord 16 0b1100101110010001,
      decodeTableWord 16 0b1100101110010010, decodeTableWord 16 0b1100101110010011,
      decodeTableWord 16 0b1100101110010100, decodeTableWord 16 0b1100101110010101,
      decodeTableWord 16 0b1100101110010110, decodeTableWord 16 0b1100101110010111,
      decodeTableWord 16 0b1100101110011000, decodeTableWord 16 0b1100101110011001,
      decodeTableWord 16 0b1100101110011010, decodeTableWord 16 0b1100101110011011,
      decodeTableWord 16 0b1100101110011100, decodeTableWord 16 0b1100101110011101,
      decodeTableWord 16 0b1100101110011110, decodeTableWord 16 0b1100101110011111] =
    [
      some .res2B, some .res2C, some .res2D, some .res2E, some .res2H, some .res2L, some .res2AtHl, some .res2A,
      some .res3B, some .res3C, some .res3D, some .res3E, some .res3H, some .res3L, some .res3AtHl, some .res3A] := rfl

theorem test_decode_extended_A :
    [
      decodeTableWord 16 0b1100101110100000, decodeTableWord 16 0b1100101110100001,
      decodeTableWord 16 0b1100101110100010, decodeTableWord 16 0b1100101110100011,
      decodeTableWord 16 0b1100101110100100, decodeTableWord 16 0b1100101110100101,
      decodeTableWord 16 0b1100101110100110, decodeTableWord 16 0b1100101110100111,
      decodeTableWord 16 0b1100101110101000, decodeTableWord 16 0b1100101110101001,
      decodeTableWord 16 0b1100101110101010, decodeTableWord 16 0b1100101110101011,
      decodeTableWord 16 0b1100101110101100, decodeTableWord 16 0b1100101110101101,
      decodeTableWord 16 0b1100101110101110, decodeTableWord 16 0b1100101110101111] =
    [
      some .res4B, some .res4C, some .res4D, some .res4E, some .res4H, some .res4L, some .res4AtHl, some .res4A,
      some .res5B, some .res5C, some .res5D, some .res5E, some .res5H, some .res5L, some .res5AtHl, some .res5A] := rfl

theorem test_decode_extended_B :
    [
      decodeTableWord 16 0b1100101110110000, decodeTableWord 16 0b1100101110110001,
      decodeTableWord 16 0b1100101110110010, decodeTableWord 16 0b1100101110110011,
      decodeTableWord 16 0b1100101110110100, decodeTableWord 16 0b1100101110110101,
      decodeTableWord 16 0b1100101110110110, decodeTableWord 16 0b1100101110110111,
      decodeTableWord 16 0b1100101110111000, decodeTableWord 16 0b1100101110111001,
      decodeTableWord 16 0b1100101110111010, decodeTableWord 16 0b1100101110111011,
      decodeTableWord 16 0b1100101110111100, decodeTableWord 16 0b1100101110111101,
      decodeTableWord 16 0b1100101110111110, decodeTableWord 16 0b1100101110111111] =
    [
      some .res6B, some .res6C, some .res6D, some .res6E, some .res6H, some .res6L, some .res6AtHl, some .res6A,
      some .res7B, some .res7C, some .res7D, some .res7E, some .res7H, some .res7L, some .res7AtHl, some .res7A] := rfl

theorem test_decode_extended_C :
    [
      decodeTableWord 16 0b1100101111000000, decodeTableWord 16 0b1100101111000001,
      decodeTableWord 16 0b1100101111000010, decodeTableWord 16 0b1100101111000011,
      decodeTableWord 16 0b1100101111000100, decodeTableWord 16 0b1100101111000101,
      decodeTableWord 16 0b1100101111000110, decodeTableWord 16 0b1100101111000111,
      decodeTableWord 16 0b1100101111001000, decodeTableWord 16 0b1100101111001001,
      decodeTableWord 16 0b1100101111001010, decodeTableWord 16 0b1100101111001011,
      decodeTableWord 16 0b1100101111001100, decodeTableWord 16 0b1100101111001101,
      decodeTableWord 16 0b1100101111001110, decodeTableWord 16 0b1100101111001111] =
    [
      some .set0B, some .set0C, some .set0D, some .set0E, some .set0H, some .set0L, some .set0AtHl, some .set0A,
      some .set1B, some .set1C, some .set1D, some .set1E, some .set1H, some .set1L, some .set1AtHl, some .set1A] := rfl

theorem test_decode_extended_D :
    [
      decodeTableWord 16 0b1100101111010000, decodeTableWord 16 0b1100101111010001,
      decodeTableWord 16 0b1100101111010010, decodeTableWord 16 0b1100101111010011,
      decodeTableWord 16 0b1100101111010100, decodeTableWord 16 0b1100101111010101,
      decodeTableWord 16 0b1100101111010110, decodeTableWord 16 0b1100101111010111,
      decodeTableWord 16 0b1100101111011000, decodeTableWord 16 0b1100101111011001,
      decodeTableWord 16 0b1100101111011010, decodeTableWord 16 0b1100101111011011,
      decodeTableWord 16 0b1100101111011100, decodeTableWord 16 0b1100101111011101,
      decodeTableWord 16 0b1100101111011110, decodeTableWord 16 0b1100101111011111] =
    [
      some .set2B, some .set2C, some .set2D, some .set2E, some .set2H, some .set2L, some .set2AtHl, some .set2A,
      some .set3B, some .set3C, some .set3D, some .set3E, some .set3H, some .set3L, some .set3AtHl, some .set3A] := rfl

theorem test_decode_extended_E :
    [
      decodeTableWord 16 0b1100101111100000, decodeTableWord 16 0b1100101111100001,
      decodeTableWord 16 0b1100101111100010, decodeTableWord 16 0b1100101111100011,
      decodeTableWord 16 0b1100101111100100, decodeTableWord 16 0b1100101111100101,
      decodeTableWord 16 0b1100101111100110, decodeTableWord 16 0b1100101111100111,
      decodeTableWord 16 0b1100101111101000, decodeTableWord 16 0b1100101111101001,
      decodeTableWord 16 0b1100101111101010, decodeTableWord 16 0b1100101111101011,
      decodeTableWord 16 0b1100101111101100, decodeTableWord 16 0b1100101111101101,
      decodeTableWord 16 0b1100101111101110, decodeTableWord 16 0b1100101111101111] =
    [
      some .set4B, some .set4C, some .set4D, some .set4E, some .set4H, some .set4L, some .set4AtHl, some .set4A,
      some .set5B, some .set5C, some .set5D, some .set5E, some .set5H, some .set5L, some .set5AtHl, some .set5A] := rfl

theorem test_decode_extended_F :
    [
      decodeTableWord 16 0b1100101111110000, decodeTableWord 16 0b1100101111110001,
      decodeTableWord 16 0b1100101111110010, decodeTableWord 16 0b1100101111110011,
      decodeTableWord 16 0b1100101111110100, decodeTableWord 16 0b1100101111110101,
      decodeTableWord 16 0b1100101111110110, decodeTableWord 16 0b1100101111110111,
      decodeTableWord 16 0b1100101111111000, decodeTableWord 16 0b1100101111111001,
      decodeTableWord 16 0b1100101111111010, decodeTableWord 16 0b1100101111111011,
      decodeTableWord 16 0b1100101111111100, decodeTableWord 16 0b1100101111111101,
      decodeTableWord 16 0b1100101111111110, decodeTableWord 16 0b1100101111111111] =
    [
      some .set6B, some .set6C, some .set6D, some .set6E, some .set6H, some .set6L, some .set6AtHl, some .set6A,
      some .set7B, some .set7C, some .set7D, some .set7E, some .set7H, some .set7L, some .set7AtHl, some .set7A] := rfl

/-! ### One step of each rule (spec/95_test_vectors.md, Part 2; the id is the row's) -/

/-- Bytes placed at addresses. -/
def poke (s : State) : List (Word × Byte) → State
  | [] => s
  | (a, v) :: rest => poke (s.placeByte a v) rest

/-- The handlers of the rows that say *HRAM and IE handlers installed* (D29). -/
def hramIe : Handlers := { unusable := .absent, io := .absent, hram := .storage, ie := .storage }

/-- The handlers of Part 4: `IF` alone in the I/O region, storage for `IE`. -/
def ifIe : Handlers := { unusable := .absent, io := .ifOnly, hram := .absent, ie := .storage }

/-- A step that answers a next state with the property. -/
def goes (s : State) (p : State → Bool) : Bool :=
  match step s with
  | .next t => p t
  | _ => false

/-- A step that ends in the fatal condition. -/
def stops (s : State) (k : Fault) : Bool :=
  match step s with
  | .fault j => j == k
  | _ => false

theorem test_v1_ld_b_c :
    goes (poke { State.reset with c := 0x5A#8 } [(0x0100#16, 0x41#8)])
      (fun t => t.b == 0x5A#8 && t.pc == 0x0101#16 && t.cycles == 1) = true := by decide

theorem test_v3_ld_a_a :
    goes (poke { State.reset with a := 0x99#8 } [(0x0100#16, 0x7F#8)])
      (fun t => t.pc == 0x0101#16 && t.cycles == 1) = true := by decide

theorem test_v4_ld_a_7f :
    goes (poke State.reset [(0x0100#16, 0x3E#8), (0x0101#16, 0x7F#8)])
      (fun t => t.a == 0x7F#8 && t.pc == 0x0102#16 && t.cycles == 2) = true := by decide

theorem test_v6_ld_a_hl :
    goes (poke { State.reset with h := 0xC1#8, l := 0x23#8 } [(0x0100#16, 0x7E#8), (0xC123#16, 0x99#8)])
      (fun t => t.a == 0x99#8 && t.pc == 0x0101#16 && t.cycles == 2) = true := by decide

theorem test_v9_ld_hl_b :
    goes (poke { State.reset with h := 0xC0#8, l := 0x00#8, b := 0x12#8 } [(0x0100#16, 0x70#8)])
      (fun t => t.pc == 0x0101#16 && t.byteAt 0xC000#16 == 0x12#8 && t.cycles == 2) = true := by decide

theorem test_v12_ld_hl_55 :
    goes (poke { State.reset with h := 0x40#8, l := 0x00#8 } [(0x0100#16, 0x36#8), (0x0101#16, 0x55#8)])
      (fun t => t.pc == 0x0102#16 && t.cycles == 3) = true := by decide

theorem test_v13_ld_hl_55 :
    goes (poke { State.reset with h := 0x9F#8, l := 0xFF#8 } [(0x0100#16, 0x36#8), (0x0101#16, 0x55#8)])
      (fun t => t.pc == 0x0102#16 && t.byteAt 0x9FFF#16 == 0x55#8 && t.cycles == 3) = true := by decide

theorem test_v14_ld_a_bc :
    goes (poke { State.reset with b := 0xA0#8, c := 0x00#8 } [(0x0100#16, 0x0A#8), (0xA000#16, 0x42#8)])
      (fun t => t.a == 0x42#8 && t.pc == 0x0101#16 && t.cycles == 2) = true := by decide

theorem test_v15_ld_a_de :
    goes (poke { State.reset with d := 0xFE#8, e := 0x9F#8 } [(0x0100#16, 0x1A#8), (0xFE9F#16, 0x24#8)])
      (fun t => t.a == 0x24#8 && t.pc == 0x0101#16 && t.cycles == 2) = true := by decide

theorem test_v16_ld_bc_a :
    goes (poke { State.reset with b := 0x00#8, c := 0x00#8, a := 0x77#8 } [(0x0100#16, 0x02#8)])
      (fun t => t.pc == 0x0101#16 && t.cycles == 2) = true := by decide

theorem test_v17_ld_de_a :
    goes (poke { State.reset with d := 0xFE#8, e := 0x00#8, a := 0x77#8 } [(0x0100#16, 0x12#8)])
      (fun t => t.pc == 0x0101#16 && t.byteAt 0xFE00#16 == 0x77#8 && t.cycles == 2) = true := by decide

theorem test_v18_ld_a_c234 :
    goes (poke State.reset [(0x0100#16, 0xFA#8), (0x0101#16, 0x34#8), (0x0102#16, 0xC2#8), (0xC234#16, 0x5A#8)])
      (fun t => t.a == 0x5A#8 && t.pc == 0x0103#16 && t.cycles == 4) = true := by decide

theorem test_v19_ld_8000_a :
    goes (poke { State.reset with a := 0x3C#8 } [(0x0100#16, 0xEA#8), (0x0101#16, 0x00#8), (0x0102#16, 0x80#8)])
      (fun t => t.pc == 0x0103#16 && t.byteAt 0x8000#16 == 0x3C#8 && t.cycles == 4) = true := by decide

theorem test_v20_ld_ff80_a :
    stops (poke { State.reset with a := 0x3C#8 } [(0x0100#16, 0xEA#8), (0x0101#16, 0x80#8), (0x0102#16, 0xFF#8)])
      (.unwiredRegion .hram 0xFF80#16 .write) = true := by decide

theorem test_v21_ldh_80_a :
    goes (poke { State.reset with a := 0x11#8, handlers := hramIe } [(0x0100#16, 0xE0#8), (0x0101#16, 0x80#8)])
      (fun t => t.pc == 0x0102#16 && t.byteAt 0xFF80#16 == 0x11#8 && t.cycles == 3) = true := by decide

theorem test_v22_ldh_a_fe :
    goes (poke { State.reset with handlers := hramIe } [(0x0100#16, 0xF0#8), (0x0101#16, 0xFE#8), (0xFFFE#16, 0x6B#8)])
      (fun t => t.a == 0x6B#8 && t.pc == 0x0102#16 && t.cycles == 3) = true := by decide

theorem test_v24_ldh_a_0f :
    stops (poke { State.reset with handlers := hramIe } [(0x0100#16, 0xF0#8), (0x0101#16, 0x0F#8)])
      (.unwiredRegion .io 0xFF0F#16 .read) = true := by decide

theorem test_v25_ldh_a_c :
    goes (poke { State.reset with c := 0x85#8, handlers := hramIe } [(0x0100#16, 0xF2#8), (0xFF85#16, 0x66#8)])
      (fun t => t.a == 0x66#8 && t.pc == 0x0101#16 && t.cycles == 2) = true := by decide

theorem test_v26_ldh_c_a :
    goes (poke { State.reset with c := 0xFF#8, a := 0x1F#8, handlers := hramIe } [(0x0100#16, 0xE2#8)])
      (fun t => t.pc == 0x0101#16 && t.byteAt 0xFFFF#16 == 0x1F#8 && t.cycles == 2) = true := by decide

theorem test_v27_ldh_c_a :
    stops (poke { State.reset with c := 0x44#8, a := 0x01#8 } [(0x0100#16, 0xE2#8)])
      (.unwiredRegion .io 0xFF44#16 .write) = true := by decide

theorem test_v28_ld_hl_a :
    goes (poke { State.reset with h := 0xDF#8, l := 0xFF#8, a := 0xAB#8 } [(0x0100#16, 0x22#8)])
      (fun t => t.h == 0xE0#8 && t.l == 0x00#8 && t.pc == 0x0101#16 && t.byteAt 0xDFFF#16 == 0xAB#8 && t.cycles == 2) = true := by decide

theorem test_v29_ld_hl_a :
    goes (poke { State.reset with h := 0xFF#8, l := 0xFF#8, a := 0xAB#8, handlers := hramIe } [(0x0100#16, 0x22#8)])
      (fun t => t.h == 0x00#8 && t.l == 0x00#8 && t.pc == 0x0101#16 && t.byteAt 0xFFFF#16 == 0xAB#8 && t.cycles == 2) = true := by decide

theorem test_v30_ld_hl_a :
    goes (poke { State.reset with h := 0x80#8, l := 0x00#8, a := 0x01#8 } [(0x0100#16, 0x32#8)])
      (fun t => t.h == 0x7F#8 && t.l == 0xFF#8 && t.pc == 0x0101#16 && t.byteAt 0x8000#16 == 0x01#8 && t.cycles == 2) = true := by decide

theorem test_v31_ld_hl_a :
    goes (poke { State.reset with h := 0x00#8, l := 0x00#8, a := 0x01#8 } [(0x0100#16, 0x32#8)])
      (fun t => t.h == 0xFF#8 && t.l == 0xFF#8 && t.pc == 0x0101#16 && t.cycles == 2) = true := by decide

theorem test_v32_ld_a_hl :
    goes (poke { State.reset with h := 0xC0#8, l := 0xFF#8 } [(0x0100#16, 0x2A#8), (0xC0FF#16, 0x10#8)])
      (fun t => t.a == 0x10#8 && t.h == 0xC1#8 && t.l == 0x00#8 && t.pc == 0x0101#16 && t.cycles == 2) = true := by decide

theorem test_v33_ld_a_hl :
    goes (poke { State.reset with h := 0x00#8, l := 0x00#8 } [(0x0100#16, 0x3A#8), (0x0000#16, 0xC3#8)])
      (fun t => t.a == 0xC3#8 && t.h == 0xFF#8 && t.l == 0xFF#8 && t.pc == 0x0101#16 && t.cycles == 2) = true := by decide

theorem test_v34_ld_a_hl :
    stops (poke { State.reset with h := 0xFF#8, l := 0xFF#8 } [(0x0100#16, 0x2A#8)])
      (.unwiredRegion .ie 0xFFFF#16 .read) = true := by decide

theorem test_v35_ld_bc_1234 :
    goes (poke State.reset [(0x0100#16, 0x01#8), (0x0101#16, 0x34#8), (0x0102#16, 0x12#8)])
      (fun t => t.b == 0x12#8 && t.c == 0x34#8 && t.pc == 0x0103#16 && t.cycles == 3) = true := by decide

theorem test_v37_ld_sp_e000 :
    goes (poke State.reset [(0x0100#16, 0x31#8), (0x0101#16, 0x00#8), (0x0102#16, 0xE0#8)])
      (fun t => t.sp == 0xE000#16 && t.pc == 0x0103#16 && t.cycles == 3) = true := by decide

theorem test_v38_ld_c100_sp :
    goes (poke { State.reset with sp := 0xBEEF#16 } [(0x0100#16, 0x08#8), (0x0101#16, 0x00#8), (0x0102#16, 0xC1#8)])
      (fun t => t.pc == 0x0103#16 && t.byteAt 0xC100#16 == 0xEF#8 && t.byteAt 0xC101#16 == 0xBE#8 && t.cycles == 5) = true := by decide

theorem test_v41_ld_fe9f_sp :
    stops (poke { State.reset with sp := 0xBEEF#16 } [(0x0100#16, 0x08#8), (0x0101#16, 0x9F#8), (0x0102#16, 0xFE#8)])
      (.unwiredRegion .unusable 0xFEA0#16 .write) = true := by decide

theorem test_v42_ld_sp_hl :
    goes (poke { State.reset with h := 0xC1#8, l := 0x00#8 } [(0x0100#16, 0xF9#8)])
      (fun t => t.sp == 0xC100#16 && t.pc == 0x0101#16 && t.cycles == 2) = true := by decide

theorem test_v43_ld_hl_sp_1 :
    goes (poke { State.reset with sp := 0x00FF#16, f := 0xF0#8 } [(0x0100#16, 0xF8#8), (0x0101#16, 0x01#8)])
      (fun t => t.f == 0x30#8 && t.h == 0x01#8 && t.pc == 0x0102#16 && t.cycles == 3) = true := by decide

theorem test_v47_ld_hl_sp_127 :
    goes (poke { State.reset with sp := 0xFFFF#16 } [(0x0100#16, 0xF8#8), (0x0101#16, 0x7F#8)])
      (fun t => t.f == 0x30#8 && t.l == 0x7E#8 && t.pc == 0x0102#16 && t.cycles == 3) = true := by decide

theorem test_v48_push_bc :
    goes (poke { State.reset with b := 0x12#8, c := 0x34#8, sp := 0xD000#16 } [(0x0100#16, 0xC5#8)])
      (fun t => t.sp == 0xCFFE#16 && t.pc == 0x0101#16 && t.byteAt 0xCFFE#16 == 0x34#8 && t.byteAt 0xCFFF#16 == 0x12#8 && t.cycles == 4) = true := by decide

theorem test_v53_push_bc :
    stops (poke { State.reset with b := 0x12#8, c := 0x34#8, sp := 0xFF82#16 } [(0x0100#16, 0xC5#8)])
      (.unwiredRegion .hram 0xFF80#16 .write) = true := by decide

theorem test_v54_pop_bc :
    goes (poke { State.reset with sp := 0xC000#16 } [(0x0100#16, 0xC1#8), (0xC000#16, 0x34#8), (0xC001#16, 0x12#8)])
      (fun t => t.b == 0x12#8 && t.c == 0x34#8 && t.sp == 0xC002#16 && t.pc == 0x0101#16 && t.cycles == 3) = true := by decide

theorem test_v56_pop_af :
    goes (poke { State.reset with sp := 0xC000#16 } [(0x0100#16, 0xF1#8), (0xC000#16, 0xFF#8), (0xC001#16, 0x34#8)])
      (fun t => t.a == 0x34#8 && t.f == 0xF0#8 && t.sp == 0xC002#16 && t.pc == 0x0101#16 && t.cycles == 3) = true := by decide

theorem test_v57_pop_af :
    goes (poke { State.reset with sp := 0xC000#16, f := 0xF0#8 } [(0x0100#16, 0xF1#8), (0xC000#16, 0x0F#8), (0xC001#16, 0x00#8)])
      (fun t => t.f == 0x00#8 && t.sp == 0xC002#16 && t.pc == 0x0101#16 && t.cycles == 3) = true := by decide

theorem test_v59_pop_de :
    goes (poke { State.reset with sp := 0xFFFF#16, handlers := hramIe } [(0x0100#16, 0xD1#8), (0xFFFF#16, 0x21#8), (0x0000#16, 0x43#8)])
      (fun t => t.d == 0x43#8 && t.e == 0x21#8 && t.sp == 0x0001#16 && t.pc == 0x0101#16 && t.cycles == 3) = true := by decide

theorem test_v60_add_a_b :
    goes (poke { State.reset with a := 0x3A#8, b := 0xC6#8 } [(0x0100#16, 0x80#8)])
      (fun t => t.a == 0x00#8 && t.f == 0xB0#8 && t.pc == 0x0101#16 && t.cycles == 1) = true := by decide

theorem test_v62_add_a_c :
    goes (poke { State.reset with a := 0x0F#8, c := 0x01#8, f := 0xF0#8 } [(0x0100#16, 0x81#8)])
      (fun t => t.a == 0x10#8 && t.f == 0x20#8 && t.pc == 0x0101#16 && t.cycles == 1) = true := by decide

theorem test_v63_add_a_hl :
    goes (poke { State.reset with a := 0x01#8, h := 0xC0#8, l := 0x00#8 } [(0x0100#16, 0x86#8), (0xC000#16, 0xFF#8)])
      (fun t => t.a == 0x00#8 && t.f == 0xB0#8 && t.pc == 0x0101#16 && t.cycles == 2) = true := by decide

theorem test_v64_add_a_01 :
    goes (poke { State.reset with a := 0x7F#8 } [(0x0100#16, 0xC6#8), (0x0101#16, 0x01#8)])
      (fun t => t.a == 0x80#8 && t.f == 0x20#8 && t.pc == 0x0102#16 && t.cycles == 2) = true := by decide

theorem test_v65_adc_a_ff :
    goes (poke { State.reset with a := 0x00#8, f := 0x10#8 } [(0x0100#16, 0xCE#8), (0x0101#16, 0xFF#8)])
      (fun t => t.f == 0xB0#8 && t.pc == 0x0102#16 && t.cycles == 2) = true := by decide

theorem test_v66_adc_a_b :
    goes (poke { State.reset with a := 0x0F#8, b := 0x00#8, f := 0x10#8 } [(0x0100#16, 0x88#8)])
      (fun t => t.a == 0x10#8 && t.f == 0x20#8 && t.pc == 0x0101#16 && t.cycles == 1) = true := by decide

theorem test_v67_adc_a_b :
    goes (poke { State.reset with a := 0x0F#8, b := 0x00#8, f := 0xE0#8 } [(0x0100#16, 0x88#8)])
      (fun t => t.f == 0x00#8 && t.pc == 0x0101#16 && t.cycles == 1) = true := by decide

theorem test_v68_adc_a_hl :
    goes (poke { State.reset with a := 0xFF#8, h := 0xC0#8, l := 0x00#8, f := 0x10#8 } [(0x0100#16, 0x8E#8), (0xC000#16, 0xFF#8)])
      (fun t => t.f == 0x30#8 && t.pc == 0x0101#16 && t.cycles == 2) = true := by decide

theorem test_v69_sub_b :
    goes (poke { State.reset with a := 0x10#8, b := 0x01#8 } [(0x0100#16, 0x90#8)])
      (fun t => t.a == 0x0F#8 && t.f == 0x60#8 && t.pc == 0x0101#16 && t.cycles == 1) = true := by decide

theorem test_v70_sub_a :
    goes (poke { State.reset with a := 0x5A#8 } [(0x0100#16, 0x97#8)])
      (fun t => t.a == 0x00#8 && t.f == 0xC0#8 && t.pc == 0x0101#16 && t.cycles == 1) = true := by decide

theorem test_v71_sub_20 :
    goes (poke { State.reset with a := 0x10#8 } [(0x0100#16, 0xD6#8), (0x0101#16, 0x20#8)])
      (fun t => t.a == 0xF0#8 && t.f == 0x50#8 && t.pc == 0x0102#16 && t.cycles == 2) = true := by decide

theorem test_v72_sub_hl :
    goes (poke { State.reset with a := 0x00#8, h := 0xC0#8, l := 0x00#8 } [(0x0100#16, 0x96#8), (0xC000#16, 0x01#8)])
      (fun t => t.a == 0xFF#8 && t.f == 0x70#8 && t.pc == 0x0101#16 && t.cycles == 2) = true := by decide

theorem test_v73_sbc_a_c :
    goes (poke { State.reset with a := 0x00#8, c := 0x00#8, f := 0x10#8 } [(0x0100#16, 0x99#8)])
      (fun t => t.a == 0xFF#8 && t.f == 0x70#8 && t.pc == 0x0101#16 && t.cycles == 1) = true := by decide

theorem test_v74_sbc_a_0f :
    goes (poke { State.reset with a := 0x10#8, f := 0x10#8 } [(0x0100#16, 0xDE#8), (0x0101#16, 0x0F#8)])
      (fun t => t.a == 0x00#8 && t.f == 0xE0#8 && t.pc == 0x0102#16 && t.cycles == 2) = true := by decide

theorem test_v76_sbc_a_b :
    goes (poke { State.reset with a := 0x00#8, b := 0xFF#8, f := 0x10#8 } [(0x0100#16, 0x98#8)])
      (fun t => t.f == 0xF0#8 && t.pc == 0x0101#16 && t.cycles == 1) = true := by decide

theorem test_v77_and_0f :
    goes (poke { State.reset with a := 0xF0#8, f := 0x50#8 } [(0x0100#16, 0xE6#8), (0x0101#16, 0x0F#8)])
      (fun t => t.a == 0x00#8 && t.f == 0xA0#8 && t.pc == 0x0102#16 && t.cycles == 2) = true := by decide

theorem test_v78_and_a :
    goes (poke { State.reset with a := 0x81#8 } [(0x0100#16, 0xA7#8)])
      (fun t => t.f == 0x20#8 && t.pc == 0x0101#16 && t.cycles == 1) = true := by decide

theorem test_v79_xor_a :
    goes (poke { State.reset with a := 0x5A#8, f := 0xF0#8 } [(0x0100#16, 0xAF#8)])
      (fun t => t.a == 0x00#8 && t.f == 0x80#8 && t.pc == 0x0101#16 && t.cycles == 1) = true := by decide

theorem test_v80_xor_hl :
    goes (poke { State.reset with a := 0xFF#8, h := 0xC0#8, l := 0x00#8 } [(0x0100#16, 0xAE#8), (0xC000#16, 0x0F#8)])
      (fun t => t.a == 0xF0#8 && t.pc == 0x0101#16 && t.cycles == 2) = true := by decide

theorem test_v81_or_c :
    goes (poke { State.reset with a := 0x00#8, c := 0x00#8, f := 0xF0#8 } [(0x0100#16, 0xB1#8)])
      (fun t => t.f == 0x80#8 && t.pc == 0x0101#16 && t.cycles == 1) = true := by decide

theorem test_v82_or_hl :
    goes (poke { State.reset with a := 0x50#8, h := 0xC0#8, l := 0x00#8 } [(0x0100#16, 0xB6#8), (0xC000#16, 0x0A#8)])
      (fun t => t.a == 0x5A#8 && t.pc == 0x0101#16 && t.cycles == 2) = true := by decide

theorem test_v83_or_80 :
    goes (poke { State.reset with a := 0x01#8 } [(0x0100#16, 0xF6#8), (0x0101#16, 0x80#8)])
      (fun t => t.a == 0x81#8 && t.pc == 0x0102#16 && t.cycles == 2) = true := by decide

theorem test_v84_cp_3c :
    goes (poke { State.reset with a := 0x3C#8 } [(0x0100#16, 0xFE#8), (0x0101#16, 0x3C#8)])
      (fun t => t.f == 0xC0#8 && t.pc == 0x0102#16 && t.cycles == 2) = true := by decide

theorem test_v85_cp_b :
    goes (poke { State.reset with a := 0x3C#8, b := 0x40#8 } [(0x0100#16, 0xB8#8)])
      (fun t => t.f == 0x50#8 && t.pc == 0x0101#16 && t.cycles == 1) = true := by decide

theorem test_v86_cp_hl :
    goes (poke { State.reset with a := 0x3C#8, h := 0xC0#8, l := 0x00#8 } [(0x0100#16, 0xBE#8), (0xC000#16, 0x2F#8)])
      (fun t => t.f == 0x60#8 && t.pc == 0x0101#16 && t.cycles == 2) = true := by decide

theorem test_v87_inc_b :
    goes (poke { State.reset with b := 0xFF#8, f := 0x10#8 } [(0x0100#16, 0x04#8)])
      (fun t => t.f == 0xB0#8 && t.b == 0x00#8 && t.pc == 0x0101#16 && t.cycles == 1) = true := by decide

theorem test_v89_inc_l :
    goes (poke { State.reset with l := 0xFF#8, h := 0x12#8 } [(0x0100#16, 0x2C#8)])
      (fun t => t.f == 0xA0#8 && t.l == 0x00#8 && t.pc == 0x0101#16 && t.cycles == 1) = true := by decide

theorem test_v90_dec_c :
    goes (poke { State.reset with c := 0x00#8 } [(0x0100#16, 0x0D#8)])
      (fun t => t.f == 0x60#8 && t.c == 0xFF#8 && t.pc == 0x0101#16 && t.cycles == 1) = true := by decide

theorem test_v92_dec_a :
    goes (poke { State.reset with a := 0x10#8 } [(0x0100#16, 0x3D#8)])
      (fun t => t.a == 0x0F#8 && t.f == 0x60#8 && t.pc == 0x0101#16 && t.cycles == 1) = true := by decide

theorem test_v93_inc_hl :
    goes (poke { State.reset with h := 0xC0#8, l := 0x00#8 } [(0x0100#16, 0x34#8), (0xC000#16, 0x0F#8)])
      (fun t => t.f == 0x20#8 && t.pc == 0x0101#16 && t.byteAt 0xC000#16 == 0x10#8 && t.cycles == 3) = true := by decide

theorem test_v94_inc_hl :
    goes (poke { State.reset with h := 0xE0#8, l := 0x00#8 } [(0x0100#16, 0x34#8), (0xC000#16, 0xFF#8)])
      (fun t => t.f == 0xA0#8 && t.pc == 0x0101#16 && t.byteAt 0xE000#16 == 0x00#8 && t.cycles == 3) = true := by decide

theorem test_v95_dec_hl :
    goes (poke { State.reset with h := 0x20#8, l := 0x00#8 } [(0x0100#16, 0x35#8), (0x2000#16, 0x01#8)])
      (fun t => t.f == 0xC0#8 && t.pc == 0x0101#16 && t.cycles == 3) = true := by decide

theorem test_v96_dec_hl :
    stops (poke { State.reset with h := 0xFF#8, l := 0x00#8 } [(0x0100#16, 0x35#8)])
      (.unwiredRegion .io 0xFF00#16 .read) = true := by decide

theorem test_v97_daa :
    goes (poke { State.reset with a := 0x7D#8, f := 0x00#8 } [(0x0100#16, 0x27#8)])
      (fun t => t.a == 0x83#8 && t.pc == 0x0101#16 && t.cycles == 1) = true := by decide

theorem test_v105_daa :
    goes (poke { State.reset with a := 0x9A#8, f := 0x40#8 } [(0x0100#16, 0x27#8)])
      (fun t => t.pc == 0x0101#16 && t.cycles == 1) = true := by decide

theorem test_v106_cpl :
    goes (poke { State.reset with a := 0x35#8, f := 0x90#8 } [(0x0100#16, 0x2F#8)])
      (fun t => t.a == 0xCA#8 && t.f == 0xF0#8 && t.pc == 0x0101#16 && t.cycles == 1) = true := by decide

theorem test_v107_scf :
    goes (poke { State.reset with f := 0xE0#8 } [(0x0100#16, 0x37#8)])
      (fun t => t.f == 0x90#8 && t.pc == 0x0101#16 && t.cycles == 1) = true := by decide

theorem test_v108_ccf :
    goes (poke { State.reset with f := 0x90#8 } [(0x0100#16, 0x3F#8)])
      (fun t => t.f == 0x80#8 && t.pc == 0x0101#16 && t.cycles == 1) = true := by decide

theorem test_v109_ccf :
    goes (poke { State.reset with f := 0x60#8 } [(0x0100#16, 0x3F#8)])
      (fun t => t.f == 0x10#8 && t.pc == 0x0101#16 && t.cycles == 1) = true := by decide

theorem test_v110_add_hl_bc :
    goes (poke { State.reset with h := 0x8A#8, l := 0x23#8, b := 0x06#8, c := 0x05#8, f := 0xC0#8 } [(0x0100#16, 0x09#8)])
      (fun t => t.f == 0xA0#8 && t.h == 0x90#8 && t.l == 0x28#8 && t.pc == 0x0101#16 && t.cycles == 2) = true := by decide

theorem test_v115_add_hl_sp :
    goes (poke { State.reset with h := 0x00#8, l := 0x00#8, sp := 0x0000#16, f := 0x70#8 } [(0x0100#16, 0x39#8)])
      (fun t => t.f == 0x00#8 && t.pc == 0x0101#16 && t.cycles == 2) = true := by decide

theorem test_v116_inc_bc :
    goes (poke { State.reset with b := 0xFF#8, c := 0xFF#8, f := 0xF0#8 } [(0x0100#16, 0x03#8)])
      (fun t => t.b == 0x00#8 && t.c == 0x00#8 && t.pc == 0x0101#16 && t.cycles == 2) = true := by decide

theorem test_v118_inc_sp :
    goes (poke { State.reset with sp := 0xFFFF#16 } [(0x0100#16, 0x33#8)])
      (fun t => t.sp == 0x0000#16 && t.pc == 0x0101#16 && t.cycles == 2) = true := by decide

theorem test_v119_dec_de :
    goes (poke { State.reset with d := 0x00#8, e := 0x00#8 } [(0x0100#16, 0x1B#8)])
      (fun t => t.d == 0xFF#8 && t.e == 0xFF#8 && t.pc == 0x0101#16 && t.cycles == 2) = true := by decide

theorem test_v121_dec_hl :
    goes (poke { State.reset with h := 0x01#8, l := 0x00#8 } [(0x0100#16, 0x2B#8)])
      (fun t => t.h == 0x00#8 && t.l == 0xFF#8 && t.pc == 0x0101#16 && t.cycles == 2) = true := by decide

theorem test_v122_add_sp_1 :
    goes (poke { State.reset with sp := 0xFFFF#16, f := 0xC0#8 } [(0x0100#16, 0xE8#8), (0x0101#16, 0x01#8)])
      (fun t => t.f == 0x30#8 && t.sp == 0x0000#16 && t.pc == 0x0102#16 && t.cycles == 4) = true := by decide

theorem test_v127_add_sp_128 :
    goes (poke { State.reset with sp := 0x0080#16 } [(0x0100#16, 0xE8#8), (0x0101#16, 0x80#8)])
      (fun t => t.f == 0x10#8 && t.sp == 0x0000#16 && t.pc == 0x0102#16 && t.cycles == 4) = true := by decide

theorem test_v128_rlca :
    goes (poke { State.reset with a := 0x80#8, f := 0x80#8 } [(0x0100#16, 0x07#8)])
      (fun t => t.a == 0x01#8 && t.f == 0x10#8 && t.pc == 0x0101#16 && t.cycles == 1) = true := by decide

theorem test_v129_rlca :
    goes (poke { State.reset with a := 0x00#8, f := 0xF0#8 } [(0x0100#16, 0x07#8)])
      (fun t => t.f == 0x00#8 && t.pc == 0x0101#16 && t.cycles == 1) = true := by decide

theorem test_v130_rrca :
    goes (poke { State.reset with a := 0x01#8 } [(0x0100#16, 0x0F#8)])
      (fun t => t.a == 0x80#8 && t.f == 0x10#8 && t.pc == 0x0101#16 && t.cycles == 1) = true := by decide

theorem test_v131_rla :
    goes (poke { State.reset with a := 0x80#8, f := 0x00#8 } [(0x0100#16, 0x17#8)])
      (fun t => t.a == 0x00#8 && t.f == 0x10#8 && t.pc == 0x0101#16 && t.cycles == 1) = true := by decide

theorem test_v132_rla :
    goes (poke { State.reset with a := 0x00#8, f := 0x10#8 } [(0x0100#16, 0x17#8)])
      (fun t => t.a == 0x01#8 && t.f == 0x00#8 && t.pc == 0x0101#16 && t.cycles == 1) = true := by decide

theorem test_v133_rra :
    goes (poke { State.reset with a := 0x01#8, f := 0x10#8 } [(0x0100#16, 0x1F#8)])
      (fun t => t.a == 0x80#8 && t.pc == 0x0101#16 && t.cycles == 1) = true := by decide

theorem test_v134_rra :
    goes (poke { State.reset with a := 0x01#8, f := 0xE0#8 } [(0x0100#16, 0x1F#8)])
      (fun t => t.a == 0x00#8 && t.f == 0x10#8 && t.pc == 0x0101#16 && t.cycles == 1) = true := by decide

theorem test_v135_rlc_b :
    goes (poke { State.reset with b := 0x85#8 } [(0x0100#16, 0xCB#8), (0x0101#16, 0x00#8)])
      (fun t => t.f == 0x10#8 && t.b == 0x0B#8 && t.pc == 0x0102#16 && t.cycles == 2) = true := by decide

theorem test_v136_rlc_b :
    goes (poke { State.reset with b := 0x00#8, f := 0x10#8 } [(0x0100#16, 0xCB#8), (0x0101#16, 0x00#8)])
      (fun t => t.f == 0x80#8 && t.pc == 0x0102#16 && t.cycles == 2) = true := by decide

theorem test_v137_rlc_hl :
    goes (poke { State.reset with h := 0xC0#8, l := 0x00#8 } [(0x0100#16, 0xCB#8), (0x0101#16, 0x06#8), (0xC000#16, 0x80#8)])
      (fun t => t.f == 0x10#8 && t.pc == 0x0102#16 && t.byteAt 0xC000#16 == 0x01#8 && t.cycles == 4) = true := by decide

theorem test_v138_rrc_c :
    goes (poke { State.reset with c := 0x01#8 } [(0x0100#16, 0xCB#8), (0x0101#16, 0x09#8)])
      (fun t => t.f == 0x10#8 && t.c == 0x80#8 && t.pc == 0x0102#16 && t.cycles == 2) = true := by decide

theorem test_v139_rrc_hl :
    goes (poke { State.reset with h := 0xC0#8, l := 0x00#8 } [(0x0100#16, 0xCB#8), (0x0101#16, 0x0E#8), (0xC000#16, 0x02#8)])
      (fun t => t.pc == 0x0102#16 && t.byteAt 0xC000#16 == 0x01#8 && t.cycles == 4) = true := by decide

theorem test_v140_rl_c :
    goes (poke { State.reset with c := 0x80#8 } [(0x0100#16, 0xCB#8), (0x0101#16, 0x11#8)])
      (fun t => t.f == 0x90#8 && t.c == 0x00#8 && t.pc == 0x0102#16 && t.cycles == 2) = true := by decide

theorem test_v141_rl_d :
    goes (poke { State.reset with d := 0x40#8, f := 0x10#8 } [(0x0100#16, 0xCB#8), (0x0101#16, 0x12#8)])
      (fun t => t.f == 0x00#8 && t.d == 0x81#8 && t.pc == 0x0102#16 && t.cycles == 2) = true := by decide

theorem test_v142_rr_d :
    goes (poke { State.reset with d := 0x01#8, f := 0x10#8 } [(0x0100#16, 0xCB#8), (0x0101#16, 0x1A#8)])
      (fun t => t.d == 0x80#8 && t.pc == 0x0102#16 && t.cycles == 2) = true := by decide

theorem test_v143_rr_e :
    goes (poke { State.reset with e := 0x01#8 } [(0x0100#16, 0xCB#8), (0x0101#16, 0x1B#8)])
      (fun t => t.f == 0x90#8 && t.e == 0x00#8 && t.pc == 0x0102#16 && t.cycles == 2) = true := by decide

theorem test_v144_rr_hl :
    goes (poke { State.reset with h := 0x90#8, l := 0x00#8, f := 0x10#8 } [(0x0100#16, 0xCB#8), (0x0101#16, 0x1E#8), (0x9000#16, 0x00#8)])
      (fun t => t.f == 0x00#8 && t.pc == 0x0102#16 && t.byteAt 0x9000#16 == 0x80#8 && t.cycles == 4) = true := by decide

theorem test_v145_sla_a :
    goes (poke { State.reset with a := 0xFF#8 } [(0x0100#16, 0xCB#8), (0x0101#16, 0x27#8)])
      (fun t => t.a == 0xFE#8 && t.f == 0x10#8 && t.pc == 0x0102#16 && t.cycles == 2) = true := by decide

theorem test_v146_sla_h :
    goes (poke { State.reset with h := 0x80#8 } [(0x0100#16, 0xCB#8), (0x0101#16, 0x24#8)])
      (fun t => t.f == 0x90#8 && t.h == 0x00#8 && t.pc == 0x0102#16 && t.cycles == 2) = true := by decide

theorem test_v147_sra_a :
    goes (poke { State.reset with a := 0x81#8 } [(0x0100#16, 0xCB#8), (0x0101#16, 0x2F#8)])
      (fun t => t.a == 0xC0#8 && t.f == 0x10#8 && t.pc == 0x0102#16 && t.cycles == 2) = true := by decide

theorem test_v148_sra_l :
    goes (poke { State.reset with l := 0x01#8 } [(0x0100#16, 0xCB#8), (0x0101#16, 0x2D#8)])
      (fun t => t.f == 0x90#8 && t.l == 0x00#8 && t.pc == 0x0102#16 && t.cycles == 2) = true := by decide

theorem test_v149_sra_hl :
    goes (poke { State.reset with h := 0xA0#8, l := 0x00#8 } [(0x0100#16, 0xCB#8), (0x0101#16, 0x2E#8), (0xA000#16, 0xFE#8)])
      (fun t => t.pc == 0x0102#16 && t.byteAt 0xA000#16 == 0xFF#8 && t.cycles == 4) = true := by decide

theorem test_v150_swap_a :
    goes (poke { State.reset with a := 0x00#8, f := 0xF0#8 } [(0x0100#16, 0xCB#8), (0x0101#16, 0x37#8)])
      (fun t => t.f == 0x80#8 && t.pc == 0x0102#16 && t.cycles == 2) = true := by decide

theorem test_v151_swap_hl :
    goes (poke { State.reset with h := 0xC0#8, l := 0x00#8 } [(0x0100#16, 0xCB#8), (0x0101#16, 0x36#8), (0xC000#16, 0xF1#8)])
      (fun t => t.pc == 0x0102#16 && t.byteAt 0xC000#16 == 0x1F#8 && t.cycles == 4) = true := by decide

theorem test_v152_srl_a :
    goes (poke { State.reset with a := 0x01#8 } [(0x0100#16, 0xCB#8), (0x0101#16, 0x3F#8)])
      (fun t => t.a == 0x00#8 && t.f == 0x90#8 && t.pc == 0x0102#16 && t.cycles == 2) = true := by decide

theorem test_v153_srl_b :
    goes (poke { State.reset with b := 0xFF#8, f := 0xF0#8 } [(0x0100#16, 0xCB#8), (0x0101#16, 0x38#8)])
      (fun t => t.f == 0x10#8 && t.b == 0x7F#8 && t.pc == 0x0102#16 && t.cycles == 2) = true := by decide

theorem test_v154_srl_hl :
    goes (poke { State.reset with h := 0x01#8, l := 0x02#8 } [(0x0100#16, 0xCB#8), (0x0101#16, 0x3E#8), (0x0102#16, 0x03#8)])
      (fun t => t.f == 0x10#8 && t.pc == 0x0102#16 && t.cycles == 4) = true := by decide

theorem test_v155_bit_7_h :
    goes (poke { State.reset with h := 0x80#8, f := 0x50#8 } [(0x0100#16, 0xCB#8), (0x0101#16, 0x7C#8)])
      (fun t => t.f == 0x30#8 && t.pc == 0x0102#16 && t.cycles == 2) = true := by decide

theorem test_v157_bit_0_a :
    goes (poke { State.reset with a := 0xFE#8, f := 0x10#8 } [(0x0100#16, 0xCB#8), (0x0101#16, 0x47#8)])
      (fun t => t.f == 0xB0#8 && t.pc == 0x0102#16 && t.cycles == 2) = true := by decide

theorem test_v158_bit_3_hl :
    goes (poke { State.reset with h := 0xC0#8, l := 0x00#8 } [(0x0100#16, 0xCB#8), (0x0101#16, 0x5E#8), (0xC000#16, 0x08#8)])
      (fun t => t.f == 0x20#8 && t.pc == 0x0102#16 && t.cycles == 3) = true := by decide

theorem test_v159_bit_0_hl :
    stops (poke { State.reset with h := 0xFF#8, l := 0x00#8 } [(0x0100#16, 0xCB#8), (0x0101#16, 0x46#8)])
      (.unwiredRegion .io 0xFF00#16 .read) = true := by decide

theorem test_v160_res_0_a :
    goes (poke { State.reset with a := 0xFF#8, f := 0xF0#8 } [(0x0100#16, 0xCB#8), (0x0101#16, 0x87#8)])
      (fun t => t.a == 0xFE#8 && t.pc == 0x0102#16 && t.cycles == 2) = true := by decide

theorem test_v161_res_7_hl :
    goes (poke { State.reset with h := 0xC0#8, l := 0x00#8 } [(0x0100#16, 0xCB#8), (0x0101#16, 0xBE#8), (0xC000#16, 0xFF#8)])
      (fun t => t.pc == 0x0102#16 && t.byteAt 0xC000#16 == 0x7F#8 && t.cycles == 4) = true := by decide

theorem test_v162_res_3_b :
    goes (poke { State.reset with b := 0x00#8 } [(0x0100#16, 0xCB#8), (0x0101#16, 0x98#8)])
      (fun t => t.pc == 0x0102#16 && t.cycles == 2) = true := by decide

theorem test_v163_set_7_a :
    goes (poke { State.reset with a := 0x00#8, f := 0x00#8 } [(0x0100#16, 0xCB#8), (0x0101#16, 0xFF#8)])
      (fun t => t.a == 0x80#8 && t.pc == 0x0102#16 && t.cycles == 2) = true := by decide

theorem test_v164_set_0_hl :
    goes (poke { State.reset with h := 0xE0#8, l := 0x00#8 } [(0x0100#16, 0xCB#8), (0x0101#16, 0xC6#8), (0xC000#16, 0x80#8)])
      (fun t => t.pc == 0x0102#16 && t.byteAt 0xE000#16 == 0x81#8 && t.cycles == 4) = true := by decide

theorem test_v165_set_4_hl :
    goes (poke { State.reset with h := 0x7F#8, l := 0xFF#8 } [(0x0100#16, 0xCB#8), (0x0101#16, 0xE6#8)])
      (fun t => t.pc == 0x0102#16 && t.cycles == 4) = true := by decide

theorem test_v166_jp_0150 :
    goes (poke State.reset [(0x0100#16, 0xC3#8), (0x0101#16, 0x50#8), (0x0102#16, 0x01#8)])
      (fun t => t.pc == 0x0150#16 && t.cycles == 4) = true := by decide

theorem test_v167_jp_ff80 :
    goes (poke State.reset [(0x0100#16, 0xC3#8), (0x0101#16, 0x80#8), (0x0102#16, 0xFF#8)])
      (fun t => t.pc == 0xFF80#16 && t.cycles == 4) = true := by decide

theorem test_v168_jp_nz_0150 :
    goes (poke { State.reset with f := 0x00#8 } [(0x0100#16, 0xC2#8), (0x0101#16, 0x50#8), (0x0102#16, 0x01#8)])
      (fun t => t.pc == 0x0150#16 && t.cycles == 4) = true := by decide

theorem test_v173_jp_hl :
    goes (poke { State.reset with h := 0xC0#8, l := 0x00#8 } [(0x0100#16, 0xE9#8)])
      (fun t => t.pc == 0xC000#16 && t.cycles == 1) = true := by decide

theorem test_v174_jr_0100 :
    goes (poke State.reset [(0x0100#16, 0x18#8), (0x0101#16, 0xFE#8)])
      (fun t => t.pc == 0x0100#16 && t.cycles == 3) = true := by decide

theorem test_v179_jr_nz_00fe :
    goes (poke { State.reset with f := 0x00#8 } [(0x0100#16, 0x20#8), (0x0101#16, 0xFC#8)])
      (fun t => t.pc == 0x00FE#16 && t.cycles == 3) = true := by decide

theorem test_v183_jr_c_0104 :
    goes (poke { State.reset with f := 0x10#8 } [(0x0100#16, 0x38#8), (0x0101#16, 0x02#8)])
      (fun t => t.pc == 0x0104#16 && t.cycles == 3) = true := by decide

theorem test_v185_call_0200 :
    goes (poke { State.reset with sp := 0xD000#16 } [(0x0100#16, 0xCD#8), (0x0101#16, 0x00#8), (0x0102#16, 0x02#8)])
      (fun t => t.sp == 0xCFFE#16 && t.pc == 0x0200#16 && t.byteAt 0xCFFE#16 == 0x03#8 && t.byteAt 0xCFFF#16 == 0x01#8 && t.cycles == 6) = true := by decide

theorem test_v186_call_0200 :
    stops (poke { State.reset with sp := 0xFFFE#16 } [(0x0100#16, 0xCD#8), (0x0101#16, 0x00#8), (0x0102#16, 0x02#8)])
      (.unwiredRegion .hram 0xFFFC#16 .write) = true := by decide

theorem test_v187_call_z_0200 :
    goes (poke { State.reset with sp := 0xD000#16, f := 0x00#8 } [(0x0100#16, 0xCC#8), (0x0101#16, 0x00#8), (0x0102#16, 0x02#8)])
      (fun t => t.pc == 0x0103#16 && t.cycles == 3) = true := by decide

theorem test_v190_call_c_0200 :
    goes (poke { State.reset with sp := 0xD000#16, f := 0x00#8 } [(0x0100#16, 0xDC#8), (0x0101#16, 0x00#8), (0x0102#16, 0x02#8)])
      (fun t => t.pc == 0x0103#16 && t.cycles == 3) = true := by decide

theorem test_v191_ret :
    goes (poke { State.reset with sp := 0xCFFE#16 } [(0x0100#16, 0xC9#8), (0xCFFE#16, 0x03#8), (0xCFFF#16, 0x01#8)])
      (fun t => t.sp == 0xD000#16 && t.pc == 0x0103#16 && t.cycles == 4) = true := by decide

theorem test_v192_ret :
    goes (poke { State.reset with sp := 0xCFFF#16 } [(0x0100#16, 0xC9#8), (0xCFFF#16, 0x03#8), (0xD000#16, 0x01#8)])
      (fun t => t.sp == 0xD001#16 && t.pc == 0x0103#16 && t.cycles == 4) = true := by decide

theorem test_v193_ret_nc :
    goes (poke { State.reset with sp := 0xCFFE#16, f := 0x00#8 } [(0x0100#16, 0xD0#8), (0xCFFE#16, 0x03#8), (0xCFFF#16, 0x01#8)])
      (fun t => t.sp == 0xD000#16 && t.pc == 0x0103#16 && t.cycles == 5) = true := by decide

theorem test_v196_ret_nz :
    goes (poke { State.reset with sp := 0xFFFE#16, f := 0x80#8 } [(0x0100#16, 0xC0#8)])
      (fun t => t.pc == 0x0101#16 && t.cycles == 2) = true := by decide

theorem test_v197_reti :
    goes (poke { State.reset with sp := 0xCFFE#16 } [(0x0100#16, 0xD9#8), (0xCFFE#16, 0x03#8), (0xCFFF#16, 0x01#8)])
      (fun t => t.sp == 0xD000#16 && t.pc == 0x0103#16 && t.cycles == 4) = true := by decide

theorem test_v198_rst_28 :
    goes (poke { State.reset with sp := 0xD000#16 } [(0x0100#16, 0xEF#8)])
      (fun t => t.sp == 0xCFFE#16 && t.pc == 0x0028#16 && t.byteAt 0xCFFE#16 == 0x01#8 && t.byteAt 0xCFFF#16 == 0x01#8 && t.cycles == 4) = true := by decide

theorem test_v200_rst_38 :
    goes (poke { State.reset with sp := 0xD000#16, pc := 0x0038#16 } [(0x0038#16, 0xFF#8)])
      (fun t => t.sp == 0xCFFE#16 && t.pc == 0x0038#16 && t.byteAt 0xCFFE#16 == 0x39#8 && t.byteAt 0xCFFF#16 == 0x00#8 && t.cycles == 4) = true := by decide

theorem test_v201_nop :
    goes (poke { State.reset with f := 0xF0#8 } [(0x0100#16, 0x00#8)])
      (fun t => t.pc == 0x0101#16 && t.cycles == 1) = true := by decide

theorem test_v203_jr_0001 :
    goes (poke { State.reset with pc := 0xFFFD#16, handlers := hramIe } [(0xFFFD#16, 0x18#8), (0xFFFE#16, 0x02#8)])
      (fun t => t.pc == 0x0001#16 && t.cycles == 3) = true := by decide

theorem test_v204_nop :
    goes (poke { State.reset with pc := 0xFE9F#16 } [(0xFE9F#16, 0x00#8)])
      (fun t => t.pc == 0xFEA0#16 && t.cycles == 1) = true := by decide

theorem test_v205_di :
    goes (poke State.reset [(0x0100#16, 0xF3#8)])
      (fun t => t.pc == 0x0101#16 && t.cycles == 1) = true := by decide

theorem test_v206_ei :
    goes (poke State.reset [(0x0100#16, 0xFB#8)])
      (fun t => t.pc == 0x0101#16 && t.cycles == 1) = true := by decide

theorem test_v207_halt :
    stops (poke State.reset [(0x0100#16, 0x76#8)])
      (.unimplementedInstruction 0x76#8 0x0100#16) = true := by decide

theorem test_v208_stop :
    stops (poke State.reset [(0x0100#16, 0x10#8), (0x0101#16, 0x00#8)])
      (.unimplementedInstruction 0x10#8 0x0100#16) = true := by decide

theorem test_v209_stop :
    stops (poke { State.reset with pc := 0xFE9F#16 } [(0xFE9F#16, 0x10#8)])
      (.unimplementedInstruction 0x10#8 0xFE9F#16) = true := by decide

theorem test_v210_illegal_d3 :
    stops (poke State.reset [(0x0100#16, 0xD3#8)])
      (.invalidOpcode 0xD3#8 0x0100#16) = true := by decide

theorem test_v221_illegal_dd :
    stops (poke { State.reset with pc := 0xFE9F#16 } [(0xFE9F#16, 0xDD#8)])
      (.invalidOpcode 0xDD#8 0xFE9F#16) = true := by decide

theorem test_v222_opcode_fetch :
    stops (poke { State.reset with pc := 0xFF80#16 } [(0xFF80#16, 0x00#8)])
      (.unwiredRegion .hram 0xFF80#16 .read) = true := by decide

theorem test_v225_opcode_fetch :
    stops (poke { State.reset with pc := 0xFFFF#16 } [(0xFFFF#16, 0x00#8)])
      (.unwiredRegion .ie 0xFFFF#16 .read) = true := by decide

theorem test_v226_ld_a_n8 :
    stops (poke { State.reset with pc := 0xFE9F#16 } [(0xFE9F#16, 0x3E#8)])
      (.unwiredRegion .unusable 0xFEA0#16 .read) = true := by decide

theorem test_v227_jp_nz_n16 :
    stops (poke { State.reset with f := 0x80#8, pc := 0xFE9E#16 } [(0xFE9E#16, 0xC2#8), (0xFE9F#16, 0x50#8)])
      (.unwiredRegion .unusable 0xFEA0#16 .read) = true := by decide

theorem test_v228_prefix_cb :
    stops (poke { State.reset with pc := 0xFE9F#16 } [(0xFE9F#16, 0xCB#8)])
      (.unwiredRegion .unusable 0xFEA0#16 .read) = true := by decide

theorem test_v229_ld_hl_a :
    stops (poke { State.reset with h := 0xFE#8, l := 0xA0#8, a := 0x01#8 } [(0x0100#16, 0x77#8)])
      (.unwiredRegion .unusable 0xFEA0#16 .write) = true := by decide

theorem test_v230_ld_a_hl :
    stops (poke { State.reset with h := 0xFE#8, l := 0xFF#8 } [(0x0100#16, 0x7E#8)])
      (.unwiredRegion .unusable 0xFEFF#16 .read) = true := by decide

/-! ### The interrupt extension (spec/95_test_vectors.md, Part 4) -/

/-- The extension with `IE` and `IF` at given bytes. -/
def interruptState (ie rq : Byte) (s : State) : State :=
  poke { s with interruptExt := true, handlers := ifIe } [(0xFFFF#16, ie), (0xFF0F#16, rq)]

theorem test_x1_lowest_source_taken :
    goes (interruptState 0x05#8 0x05#8 { State.reset with ime := true, pc := 0x0150#16 })
      (fun t => !t.ime && t.byteAt 0xFF0F#16 == 0x04#8 && t.sp == 0xDFEE#16 && t.byteAt 0xDFEE#16 == 0x50#8 &&
        t.byteAt 0xDFEF#16 == 0x01#8 && t.pc == 0x0040#16 && t.cycles == 5) = true := by decide

theorem test_x2_masked_by_ime :
    goes (interruptState 0x05#8 0x05#8 { State.reset with pc := 0x0150#16 })
      (fun t => t.pc == 0x0151#16 && t.byteAt 0xFF0F#16 == 0x05#8 && t.cycles == 1) = true := by decide

theorem test_x3_masked_by_ie :
    goes (interruptState 0x04#8 0x01#8 { State.reset with ime := true, pc := 0x0150#16 })
      (fun t => t.pc == 0x0151#16 && t.byteAt 0xFF0F#16 == 0x01#8 && t.cycles == 1) = true := by decide

theorem test_x4_third_source :
    goes (interruptState 0x1F#8 0x14#8 { State.reset with ime := true, pc := 0x0150#16 })
      (fun t => !t.ime && t.byteAt 0xFF0F#16 == 0x10#8 && t.pc == 0x0050#16) = true := by decide

theorem test_x5_ei_is_pending :
    goes (poke (interruptState 0x01#8 0x01#8 { State.reset with pc := 0x0150#16 }) [(0x0150#16, 0xFB#8)])
      (fun t => t.eiPending && !t.ime && t.pc == 0x0151#16) = true := by decide

theorem test_x6_ime_after_the_next_instruction :
    goes (interruptState 0x01#8 0x01#8 { State.reset with pc := 0x0151#16, eiPending := true })
      (fun t => t.ime && !t.eiPending && t.pc == 0x0152#16) = true := by decide

theorem test_x8_di_cancels_ei :
    goes (poke (interruptState 0x01#8 0x01#8 { State.reset with pc := 0x0151#16, eiPending := true }) [(0x0151#16, 0xF3#8)])
      (fun t => !t.ime && !t.eiPending && t.pc == 0x0152#16) = true := by decide

theorem test_x9_halt :
    goes (poke (interruptState 0x04#8 0x00#8 { State.reset with pc := 0x0150#16 }) [(0x0150#16, 0x76#8)])
      (fun t => t.halted && t.pc == 0x0151#16 && t.cycles == 1) = true := by decide

theorem test_x10_halted_idles :
    goes (interruptState 0x04#8 0x00#8 { State.reset with pc := 0x0151#16, halted := true })
      (fun t => t.halted && t.pc == 0x0151#16 && t.cycles == 1) = true := by decide

theorem test_x11_wakes_without_dispatch :
    goes (poke (interruptState 0x04#8 0x04#8 { State.reset with pc := 0x0151#16, halted := true }) [(0x0151#16, 0x3C#8)])
      (fun t => !t.halted && t.a == 0x01#8 && t.f == 0x00#8 && t.pc == 0x0152#16) = true := by decide

theorem test_x12_wakes_and_dispatches :
    goes (interruptState 0x04#8 0x04#8 { State.reset with pc := 0x0151#16, halted := true, ime := true })
      (fun t => !t.halted && !t.ime && t.byteAt 0xFF0F#16 == 0x00#8 && t.byteAt 0xDFEE#16 == 0x51#8 &&
        t.pc == 0x0050#16 && t.cycles == 5) = true := by decide

theorem test_x13_reti_sets_ime :
    goes (poke (interruptState 0x00#8 0x00#8 { State.reset with pc := 0x0040#16, sp := 0xDFEE#16 })
      [(0xDFEE#16, 0x52#8), (0xDFEF#16, 0x01#8), (0x0040#16, 0xD9#8)])
      (fun t => t.ime && t.pc == 0x0152#16 && t.sp == 0xDFF0#16 && t.cycles == 4) = true := by decide

/-! ### The bus and the disassembler -/

theorem test_b70_boundary_write :
    ((State.reset.placeByte 0x7FFF#16 0x5C#8).storeWord 0x7FFF#16 0xBEEF#16).wordAt 0x7FFF#16 = 0xBE5C#16 := by decide

theorem test_b72_word_store_into_the_echo :
    (State.reset.storeWord 0xDFFF#16 0xC3D4#16).byteAt 0xC000#16 = 0xC3#8 := by decide

theorem test_b80_second_bank :
    ({ State.reset with wramSlot1 := 2 }.store 0xD000#16 0x77#8).mem.wram = [(0x2000, 0x77#8)] := by decide

/-- The text the disassembler gives. -/
def textAt (s : State) (a : Word) : String :=
  match mnemonic s a with
  | .ok (text, _) => text
  | .error _ => ""

theorem test_m6_relative_target : textAt (poke State.reset [(0x0200#16, 0x20#8), (0x0201#16, 0x80#8)]) 0x0200#16 = "JR NZ,$0182" := by
  decide

theorem test_m10_signed_offset : textAt (poke State.reset [(0x0100#16, 0xF8#8), (0x0101#16, 0x80#8)]) 0x0100#16 = "LD HL,SP-128" := by
  decide

/-- The operand byte of `LD A,n8` at the end of OAM lies in a device's region: the device sees the read of it (R315). -/
theorem test_mnemonic_reads_through_the_handler :
    (match mnemonic (poke { State.reset with handlers := { Handlers.none with unusable := .device } } [(0xFE9F#16, 0x3E#8)]) 0xFE9F#16 with
      | .ok (_, t) => t.extCalls == [.read .unusable 0] && t.pc == 0x0100#16
      | .error _ => false) = true := by decide

theorem test_m18_extended_row : textAt (poke State.reset [(0x0100#16, 0xCB#8), (0x0101#16, 0x46#8)]) 0x0100#16 = "BIT 0,(HL)" := by
  decide

theorem test_m26_illegal_row : textAt (poke State.reset [(0x0100#16, 0xDD#8)]) 0x0100#16 = "ILLEGAL_DD" := by decide

/-! ### A word run as the first instruction after reset -/

theorem test_fetch_word_primary : goes (State.reset.withFetchWord 8 0x3C) (fun t => t.a == 0x01#8 && t.pc == 0x0101#16) = true := by
  decide

theorem test_fetch_word_extended :
    goes (State.reset.withFetchWord 16 0xCBFF) (fun t => t.a == 0x80#8 && t.pc == 0x0102#16) = true := by decide

theorem test_fetch_word_prefix_row :
    goes (State.reset.withFetchWord 8 0xCB) (fun t => t.pc == 0x0102#16 && t.f == 0x80#8 && t.cycles == 2) = true := by decide

/-! ### Witnesses: states and operands that meet the hypotheses of the statements -/

/-- The instruction of a form, through its bytes. -/
def instrOfForm (f : Form) : Instr :=
  match decode (formBytes f) with
  | .ok (i, _) => i
  | .error _ => .nop

/-- Every form but the accumulator rotates of an extended operation is that of an instruction: no `formOf i = …` of a
statement is empty, whatever the registers, operands, bits and conditions. -/
theorem witness_every_form (f : Form) (h : ∀ op, f = .rotA op → op.code < 4) (hp : ∀ e, f ≠ .prefixCb e) :
    formOf (instrOfForm f) = f := by
  cases f with
  | prefixCb e => exact absurd rfl (hp e)
  | ldRegReg dst r => cases dst <;> cases r <;> rfl
  | ldRegImm dst n8 => cases dst <;> rfl
  | ldRegMem dst => cases dst <;> rfl
  | ldMemReg r => cases r <;> rfl
  | loadA p => cases p <;> rfl
  | storeA p => cases p <;> rfl
  | loadAStep p => cases p <;> rfl
  | storeAStep p => cases p <;> rfl
  | ldPairImm p n16 =>
    cases p <;> exact congrArg (Form.ldPairImm _) (joinBytes_hi_lo n16)
  | ldMemSp n16 => exact congrArg Form.ldMemSp (joinBytes_hi_lo n16)
  | loadAbs n16 => exact congrArg Form.loadAbs (joinBytes_hi_lo n16)
  | storeAbs n16 => exact congrArg Form.storeAbs (joinBytes_hi_lo n16)
  | jp n16 => exact congrArg Form.jp (joinBytes_hi_lo n16)
  | call n16 => exact congrArg Form.call (joinBytes_hi_lo n16)
  | jpCond cc n16 => cases cc <;> exact congrArg (Form.jpCond _) (joinBytes_hi_lo n16)
  | callCond cc n16 => cases cc <;> exact congrArg (Form.callCond _) (joinBytes_hi_lo n16)
  | push p => cases p <;> rfl
  | pop p => cases p <;> rfl
  | aluReg op r => cases op <;> cases r <;> rfl
  | aluMem op => cases op <;> rfl
  | aluImm op n8 => cases op <;> rfl
  | incReg r => cases r <;> rfl
  | decReg r => cases r <;> rfl
  | addHl p => cases p <;> rfl
  | incPair p => cases p <;> rfl
  | decPair p => cases p <;> rfl
  | rotA op => cases op <;> first | rfl | exact absurd (h _ rfl) (by decide)
  | rotReg op r => cases op <;> cases r <;> rfl
  | rotMem op => cases op <;> rfl
  | bitReg b r => fin_cases b <;> cases r <;> rfl
  | bitMem b => fin_cases b <;> rfl
  | resReg b r => fin_cases b <;> cases r <;> rfl
  | resMem b => fin_cases b <;> rfl
  | setReg b r => fin_cases b <;> cases r <;> rfl
  | setMem b => fin_cases b <;> rfl
  | jrCond cc e8 => cases cc <;> rfl
  | retCond cc => cases cc <;> rfl
  | rst t => fin_cases t <;> rfl
  | illegal op => cases op <;> rfl
  | _ => rfl

/-- Reset with HL at an address. -/
def atHl (w : Word) : State := State.reset.setHl w

/-- Reset with the extension and the handlers of Part 4. -/
def extended : State := { State.reset with interruptExt := true, handlers := ifIe }

theorem witness_DecodeInvertsEncode : Instr.wf (.jpN16 0xFFFF#16) = true ∧ Instr.wf .set7A = true := by decide

theorem witness_EncodeInvertsDecode : ∃ i, decode [0xC3#8, 0x50#8, 0x01#8, 0x00#8] = .ok (i, [0x00#8]) := ⟨_, rfl⟩

theorem witness_PrimaryFieldsSelectForm : (0x00#8 : Byte) ≠ 0xCB#8 ∧ (0xCA#8 : Byte) ≠ 0xCB#8 ∧ (0xFF#8 : Byte) ≠ 0xCB#8 := by decide

/-- The echo clause at both its ends, and the other clause on both sides of it. -/
theorem witness_ResolveGivesTriple :
    resolve 0xE000#16 = resolve 0xC000#16 ∧ resolve 0xFDFF#16 = resolve 0xDDFF#16 ∧
    (resolve 0xDFFF#16).region = .wramX ∧ (resolve 0xFE00#16).region = .oam := by decide

/-- Each clause at the ends of its range: the buffer and the offset that the address names. -/
theorem witness_ReadReturnsStorageByte :
    [0x0000#16, 0x3FFF#16, 0x4000#16, 0x7FFF#16, 0x8000#16, 0x8FFF#16, 0x9000#16, 0x97FF#16, 0x9800#16, 0x9BFF#16, 0x9C00#16,
      0x9FFF#16, 0xA000#16, 0xBFFF#16, 0xC000#16, 0xCFFF#16, 0xD000#16, 0xDFFF#16, 0xFE00#16, 0xFE9F#16].map State.reset.target =
    [.cell ⟨.rom, 0x0000⟩ .readOnly, .cell ⟨.rom, 0x3FFF⟩ .readOnly, .cell ⟨.rom, 0x4000⟩ .readOnly, .cell ⟨.rom, 0x7FFF⟩ .readOnly,
      .cell ⟨.tile0, 0x0000⟩ .writable, .cell ⟨.tile0, 0x0FFF⟩ .writable, .cell ⟨.tile1, 0x0000⟩ .writable,
      .cell ⟨.tile1, 0x07FF⟩ .writable, .cell ⟨.map0, 0x0000⟩ .writable, .cell ⟨.map0, 0x03FF⟩ .writable,
      .cell ⟨.map1, 0x0000⟩ .writable, .cell ⟨.map1, 0x03FF⟩ .writable, .cell ⟨.eram, 0x0000⟩ .writable,
      .cell ⟨.eram, 0x1FFF⟩ .writable, .cell ⟨.wram, 0x0000⟩ .writable, .cell ⟨.wram, 0x0FFF⟩ .writable,
      .cell ⟨.wram, 0x1000⟩ .writable, .cell ⟨.wram, 0x1FFF⟩ .writable, .cell ⟨.oam, 0x0000⟩ .writable,
      .cell ⟨.oam, 0x009F⟩ .writable] := by decide

theorem witness_ReadOnlyWriteDiscarded :
    (resolve 0x0000#16).permission = .readOnly ∧ (resolve 0x7FFF#16).permission = .readOnly ∧
    (resolve 0x8000#16).permission = .writable := by decide

theorem witness_WriteThenRead :
    State.reset.mem.wf State.reset.romBanks = true ∧ State.reset.target 0xFE9F#16 ≠ State.reset.target 0x8000#16 ∧
    State.reset.target 0xE000#16 = State.reset.target 0xC000#16 := by decide

/-- (a) at both ends of the echo, (b) from one region into the next, (c) on a canonical memory. -/
theorem witness_BusLaws :
    State.reset.mem.wf State.reset.romBanks = true ∧ (0xE000#16 : Word).toNat = 0xE000 ∧ (0xFDFF#16 : Word).toNat ≤ 0xFDFF ∧
    (0x8FFF#16 : Word).toNat < 0xFE9F ∧ (0xFE9E#16 : Word).toNat < 0xFE9F := by decide

/-- The clauses at the first and the last unwired address, and at the last owned one. -/
theorem witness_UnwiredAccessIsFatal :
    State.reset.handler (resolve 0xFEA0#16).region = some .absent ∧ State.reset.handler (resolve 0xFFFF#16).region = some .absent ∧
    State.reset.handler (resolve 0xFE9F#16).region ≠ some .absent ∧
    State.handler { State.reset with handlers := hramIe } (resolve 0xFFFF#16).region ≠ some .absent := by decide

/-- A storage handler at both ends of its region, `IF` and its neighbours, a device. -/
theorem witness_HandlerAnswers :
    State.handler { State.reset with handlers := hramIe } (resolve 0xFF80#16).region = some .storage ∧
    State.handler { State.reset with handlers := hramIe } (resolve 0xFFFF#16).region = some .storage ∧
    extended.handler (resolve 0xFF0F#16).region = some .ifOnly ∧ (resolve 0xFF0F#16).offset = 0x0F ∧
    (resolve 0xFF0E#16).offset ≠ 0x0F ∧ (resolve 0xFF10#16).offset ≠ 0x0F ∧
    State.handler { State.reset with handlers := { ifIe with io := .device } } (resolve 0xFF00#16).region = some .device := by decide

theorem witness_PairsAndHalves :
    Pair.sp ≠ .hl ∧ StackPair.af ≠ .hl ∧ StackPair.bc ≠ .af ∧ StackPair.de ≠ .af ∧ StackPair.hl ≠ .af := by decide

/-- A register move with source and destination alike and unlike, each clause of the register loads. -/
theorem witness_RegisterLoads :
    formOf .ldHL = .ldRegReg .h .l ∧ formOf .ldAA = .ldRegReg .a .a ∧ formOf (.ldBN8 0xFF#8) = .ldRegImm .b 0xFF#8 ∧
    formOf (.ldSpN16 0xFFFF#16) = .ldPairImm .sp 0xFFFF#16 ∧ formOf .ldSpHl = .ldSpHl := by decide

/-- Each load, a reachable byte at the last owned address and the first byte that is not. -/
theorem witness_MemoryLoads :
    formOf .ldBAtHl = .ldRegMem .b ∧ formOf .ldAAtBc = .loadA .bc ∧ formOf .ldAAtDe = .loadA .de ∧
    formOf (.ldAAtN16 0xFE9F#16) = .loadAbs 0xFE9F#16 ∧ formOf (.ldhAAtN8 0xFF#8) = .loadHighImm 0xFF#8 ∧
    formOf .ldhAAtC = .loadHighC ∧ (atHl 0xFE9F#16).accessible 0xFE9F#16 = true ∧ (atHl 0xFEA0#16).accessible 0xFEA0#16 = false ∧
    State.accessible { State.reset with handlers := hramIe } 0xFFFF#16 = true ∧ State.reset.accessible 0xFFFF#16 = false := by decide

theorem witness_MemoryStores :
    formOf .ldAtHlL = .ldMemReg .l ∧ formOf (.ldAtHlN8 0x55#8) = .ldMemImm 0x55#8 ∧ formOf .ldAtBcA = .storeA .bc ∧
    formOf .ldAtDeA = .storeA .de ∧ formOf (.ldAtN16A 0x7FFF#16) = .storeAbs 0x7FFF#16 ∧
    formOf (.ldhAtN8A 0x80#8) = .storeHighImm 0x80#8 ∧ formOf .ldhAtCA = .storeHighC ∧
    State.reset.accessible 0x7FFF#16 = true ∧ State.reset.accessible 0xFF80#16 = false ∧
    State.accessible { State.reset with handlers := hramIe } 0xFF80#16 = true := by decide

theorem witness_SteppedAccesses :
    formOf .ldAtHliA = .storeAStep .inc ∧ formOf .ldAtHldA = .storeAStep .dec ∧ formOf .ldAAtHli = .loadAStep .inc ∧
    formOf .ldAAtHld = .loadAStep .dec ∧ (atHl 0x0000#16).accessible (atHl 0x0000#16).hl = true ∧
    (atHl 0xFFFF#16).accessible (atHl 0xFFFF#16).hl = false := by decide

/-- Words that can be reached, that fail in the second byte, and that fail in the first. -/
theorem witness_StackAndWordStores :
    formOf (.ldAtN16Sp 0xFE9E#16) = .ldMemSp 0xFE9E#16 ∧ formOf .pushAf = .push .af ∧ formOf .popAf = .pop .af ∧
    State.reset.wordReady 0xFE9E#16 = true ∧ State.reset.wordReady 0xFE9F#16 = false ∧ State.reset.accessible 0xFE9F#16 = true ∧
    State.reset.wordReady (State.reset.sp - 2#16) = true ∧ State.reset.wordReady 0xFFFF#16 = false := by decide

theorem witness_SpOffsets :
    formOf (.ldHlSpE8 0x80#8) = .ldHlSp 0x80#8 ∧ formOf (.addSpE8 0x7F#8) = .addSp 0x7F#8 := by decide

/-- Both operations on each operand, the carry set and clear, a byte at HL that can and one that cannot be reached. -/
theorem witness_Additions :
    formOf .addB = aluForm .add (.reg .b) ∧ formOf .adcAtHl = aluForm .adc .mem ∧ formOf (.adcN8 0xFF#8) = aluForm .adc (.imm 0xFF#8) ∧
    formOf .addAtHl = aluForm .add .mem ∧ (atHl 0xC000#16).operandReady .mem = true ∧ (atHl 0xFF00#16).operandReady .mem = false ∧
    State.reset.operandReady (.reg .b) = true ∧ (1 : Nat) = (if AluOp.adc = .adc ∧ flagC 0x10#8 = true then 1 else 0) ∧
    (0 : Nat) = (if AluOp.add = .adc ∧ flagC 0x10#8 = true then 1 else 0) := by decide

theorem witness_Subtractions :
    formOf .subB = aluForm .sub (.reg .b) ∧ formOf .sbcAtHl = aluForm .sbc .mem ∧ formOf (.cpN8 0x00#8) = aluForm .cp (.imm 0x00#8) ∧
    (atHl 0xC000#16).operandReady .mem = true ∧ (atHl 0xFF00#16).operandReady .mem = false ∧
    (1 : Nat) = (if AluOp.sbc = .sbc ∧ flagC 0x10#8 = true then 1 else 0) := by decide

theorem witness_LogicOperations :
    formOf .andB = aluForm .and (.reg .b) ∧ formOf .xorAtHl = aluForm .xor .mem ∧ formOf (.orN8 0x00#8) = aluForm .or (.imm 0x00#8) ∧
    (atHl 0xC000#16).operandReady .mem = true ∧ (atHl 0xFF00#16).operandReady .mem = false := by decide

theorem witness_IncrementsAndDecrements :
    formOf .incB = incForm (.reg .b) ∧ formOf .incAtHl = incForm .mem ∧ formOf .decA = decForm (.reg .a) ∧ formOf .decAtHl = decForm .mem ∧
    (atHl 0xC000#16).placeReady .mem = true ∧ (atHl 0xFF00#16).placeReady .mem = false ∧ State.reset.placeReady (.reg .b) = true := by
  decide

/-- Both branches of `DAA`, with and without each adjustment. -/
theorem witness_DecimalAdjust :
    formOf .daa = .daa ∧ (flagH 0x00#8 || (!flagN 0x00#8 && decide (9 < (0x9A#8 : Byte).toNat % 16))) = true ∧
    (flagC 0x00#8 || (!flagN 0x00#8 && decide (0x99 < (0x99#8 : Byte).toNat))) = false ∧ flagN 0x40#8 = true := by decide

/-- The runs of the statement on 99 + 1 and 0 − 1. -/
theorem witness_DecimalAdjustCorrectsPackedDecimal :
    (∃ t u, exec .addB { State.reset with a := 0x99#8, b := 0x01#8 } = .next t ∧ exec .daa t = .next u ∧ u.a = 0x00#8) ∧
    ∃ t u, exec .subB { State.reset with a := 0x00#8, b := 0x01#8 } = .next t ∧ exec .daa t = .next u ∧ u.a = 0x99#8 :=
  ⟨⟨_, _, rfl, rfl, rfl⟩, ⟨_, _, rfl, rfl, rfl⟩⟩

theorem witness_FlagAdjustments : formOf .cpl = .cpl ∧ formOf .scf = .scf ∧ formOf .ccf = .ccf := by decide

theorem witness_PairArithmetic :
    formOf .addHlHl = .addHl .hl ∧ formOf .addHlSp = .addHl .sp ∧ formOf .incSp = .incPair .sp ∧ formOf .decBc = .decPair .bc := by decide

theorem witness_AccumulatorRotates :
    formOf .rlca = .rotA .rlc ∧ formOf .rrca = .rotA .rrc ∧ formOf .rla = .rotA .rl ∧ formOf .rra = .rotA .rr := by decide

/-- Each disjunct, on a register and on the byte at HL. -/
theorem witness_LeftRotatesAndSwap :
    formOf .rlcB = rotForm .rlc (.reg .b) ∧ formOf .rlAtHl = rotForm .rl .mem ∧ formOf .slaA = rotForm .sla (.reg .a) ∧
    formOf .swapAtHl = rotForm .swap .mem ∧ (atHl 0xC000#16).placeReady .mem = true ∧ (atHl 0xFF00#16).placeReady .mem = false ∧
    (atHl 0xC000#16).placeValue .mem = 0x00#8 := by decide

theorem witness_RightRotatesAndShifts :
    formOf .rrcB = rotForm .rrc (.reg .b) ∧ formOf .rrAtHl = rotForm .rr .mem ∧ formOf .sraA = rotForm .sra (.reg .a) ∧
    formOf .srlAtHl = rotForm .srl .mem ∧ (atHl 0xC000#16).placeReady .mem = true ∧ (atHl 0xFF00#16).placeReady .mem = false := by decide

theorem witness_BitTests :
    formOf .bit7H = bitForm 7 (.reg .h) ∧ formOf .bit0AtHl = bitForm 0 .mem ∧ (atHl 0xC000#16).placeReady .mem = true ∧
    (atHl 0xFF00#16).placeReady .mem = false := by decide

/-- Both operations, the result byte that the clause on the bits admits. -/
theorem witness_BitChanges :
    formOf .res7A = resForm 7 (.reg .a) ∧ formOf .set0AtHl = setForm 0 .mem ∧
    (∀ k < 8, (0x7F#8 : Byte).getLsbD k = (if k = 7 then false else (0xFF#8 : Byte).getLsbD k)) ∧
    (∀ k < 8, (0x01#8 : Byte).getLsbD k = (if k = 0 then true else (0x00#8 : Byte).getLsbD k)) := by decide

/-- Each condition met and not met. -/
theorem witness_Jumps :
    formOf (.jpN16 0x0000#16) = .jp 0x0000#16 ∧ formOf (.jpNcN16 0xFFFF#16) = .jpCond .nc 0xFFFF#16 ∧ formOf .jpHl = .jpHl ∧
    formOf (.jrE8 0x80#8) = .jr 0x80#8 ∧ formOf (.jrCE8 0x7F#8) = .jrCond .c 0x7F#8 ∧
    [Cond.nz, .z, .nc, .c].map (State.cond { State.reset with f := 0x90#8 }) = [false, true, false, true] ∧
    [Cond.nz, .z, .nc, .c].map (State.cond { State.reset with f := 0x60#8 }) = [true, false, true, false] := by decide

theorem witness_Calls :
    formOf (.callN16 0x0200#16) = .call 0x0200#16 ∧ formOf (.callZN16 0x0200#16) = .callCond .z 0x0200#16 ∧ formOf .rst38 = .rst 7 ∧
    State.reset.wordReady (State.reset.sp - 2#16) = true ∧
    State.wordReady { State.reset with sp := 0xFFFE#16 } (0xFFFE#16 - 2#16) = false ∧
    State.cond { State.reset with f := 0x80#8 } .z = true ∧ State.reset.cond .z = false := by decide

theorem witness_Returns :
    formOf .ret = .ret ∧ formOf .retNc = .retCond .nc ∧ formOf .reti = .reti ∧ State.reset.wordReady State.reset.sp = true ∧
    State.wordReady { State.reset with sp := 0xFE9F#16 } 0xFE9F#16 = false ∧ State.reset.cond .nc = true ∧ State.reset.cond .c = false := by
  decide

theorem witness_NopAndInterruptMask :
    formOf .nop = .nop ∧ formOf .di = .di ∧ formOf .ei = .ei ∧ extended.interruptExt = true ∧ State.reset.interruptExt = false := by decide

theorem witness_HaltAndStop :
    formOf .halt = .halt ∧ formOf (.stop 0x00#8) = .stop 0x00#8 ∧ extended.interruptExt = true ∧ State.reset.interruptExt = false := by decide

theorem witness_IllegalOpcodesStop :
    [Instr.illegalD3, .illegalDB, .illegalDD, .illegalE3, .illegalE4, .illegalEB, .illegalEC, .illegalED, .illegalF4, .illegalFC,
      .illegalFD].map formOf =
    [IllegalOp.opD3, .opDB, .opDD, .opE3, .opE4, .opEB, .opEC, .opED, .opF4, .opFC, .opFD].map Form.illegal ∧
    State.reset.interruptExt = false ∧ State.reset.accessible 0x0100#16 = true ∧
    (poke State.reset [(0x0100#16, 0xD3#8)]).byteAt 0x0100#16 = IllegalOp.opD3.byte := by decide

/-- A register form and one of the byte at HL, where that byte can be reached. -/
theorem witness_PrefixRunsExtended :
    fieldZ 0x07#8 ≠ 6 ∧ fieldZ 0x06#8 = 6 ∧ (atHl 0xC000#16).accessible (atHl 0xC000#16).hl = true := by decide

/-- A completed instruction of each shape: register, store, stack, transfer. -/
theorem witness_frames :
    (∃ t, exec .ldBC State.reset = .next t) ∧ (∃ t, exec .ldAtHlB (atHl 0xC000#16) = .next t) ∧ (∃ t, exec .pushBc State.reset = .next t) ∧
    (∃ t, exec (.jpN16 0x0150#16) State.reset = .next t) ∧ State.reset.mem.wf State.reset.romBanks = true :=
  ⟨⟨_, rfl⟩, ⟨_, rfl⟩, ⟨_, rfl⟩, ⟨_, rfl⟩, by decide⟩

theorem witness_RegisterFrame :
    (effectForm .ldBC).writesReg .c = false ∧ (effectForm .ldBC).writesSp = false ∧ (effectForm .ldBC).transfers = false ∧
    (effectForm (.prefixCb 0x37#8)).writesReg .b = false := by decide

theorem witness_FlagFrame :
    (effectForm .incB).writesFlag .c = false ∧ (∀ k ∈ [Flag.z, .n, .h, .c], (effectForm .ldBC).writesFlag k = false) ∧
    State.reset.f.toNat % 16 = 0 := by decide

/-- A store away from an address, a store to ROM, a form that stores nothing, a store in another bank. -/
theorem witness_MemoryFrame :
    (effectForm .ldAtHlB).stores (atHl 0xC000#16) = [0xC000#16] ∧
    State.reset.target 0xC000#16 ≠ State.reset.target 0xC001#16 ∧ (effectForm .ldBC).stores State.reset = [] ∧
    (effectForm .ldAtHlB).stores (atHl 0x7FFF#16) = [0x7FFF#16] ∧ (resolve 0x7FFF#16).permission = .readOnly ∧
    State.reset.target 0xD000#16 = .cell ⟨.wram, 0x1000⟩ .writable := by decide

theorem witness_ControlFrame :
    (∃ t, exec .ldBC extended = .next t) ∧ Instr.ldBC ≠ .di ∧ Instr.ldBC ≠ .reti ∧ Instr.ldBC ≠ .ei ∧ Instr.ldBC ≠ .halt ∧
    extended.noDevice = true := ⟨⟨_, rfl⟩, by decide, by decide, by decide, by decide, by decide⟩

/-- Every access reachable; the first unreachable one of a word, second byte. -/
theorem witness_CompletesOrFirstFault :
    ((effectForm .pushBc).accesses State.reset).all (fun x => State.reset.accessible x.1) = true ∧
    ((effectForm .pushBc).accesses { State.reset with sp := 0xFEA1#16 }).find? (fun x => !State.reset.accessible x.1) =
      some (0xFEA0#16, .write) ∧
    (extended.interruptExt = true ∧ formOf .halt = .halt) ∧ formOf .pushBc ≠ .halt := by decide

/-- One, two and three bytes and an extended opcode at pc, in the base core. -/
theorem witness_StepRunsDecodedInstruction :
    ([Instr.ldBC, .ldAN8 0x7F#8, .jpN16 0x0150#16, .swapA].all fun i =>
      let s := State.reset.placeBytes 0x0100#16 (encode i)
      i.wf && !s.interruptExt && s.bytesReady s.pc (encode i).length && (s.bytesFrom s.pc (encode i).length == encode i)) = true := by
  decide

/-- No interrupt pending; and one pending with `ime` clear, the machine halted, `EI` before. -/
theorem witness_StepRunsDecodedInstructionExtension :
    ([extended.placeBytes 0x0100#16 (encode .swapA),
      { (interruptState 0x04#8 0x04#8 State.reset).placeBytes 0x0100#16 (encode .swapA) with halted := true, eiPending := true }].all
      fun s =>
        let p := s.byteAt 0xFFFF#16 &&& (s.noteRead 0xFFFF#16).byteAt 0xFF0F#16 &&& 0x1F#8
        let s1 := { (s.noteRead 0xFFFF#16).noteRead 0xFF0F#16 with halted := false, eiPending := false }
        s.interruptExt && s.accessible 0xFFFF#16 && s.accessible 0xFF0F#16 && (!s.halted || p != 0#8) && (!s.ime || p == 0#8) &&
          s1.bytesReady s.pc 2 && (s1.bytesFrom s.pc 2 == encode .swapA)) = true := by decide

/-- Each clause: pc unreachable, an illegal opcode, `STOP`, an operand byte and a second operand byte unreachable. -/
theorem witness_FetchFaultsInOrder :
    State.accessible { State.reset with pc := 0xFF80#16 } 0xFF80#16 = false ∧
    (poke State.reset [(0x0100#16, 0xDD#8)]).byteAt 0x0100#16 = 0xDD#8 ∧
    (poke State.reset [(0xFE9F#16, 0x10#8)]).byteAt 0xFE9F#16 = 0x10#8 ∧
    (poke State.reset [(0xFE9F#16, 0x3E#8)]).byteAt 0xFE9F#16 = 0x3E#8 ∧ 2 ≤ lengthOf 0x3E#8 ∧ State.reset.accessible 0xFEA0#16 = false ∧
    (poke State.reset [(0xFE9E#16, 0xC2#8)]).byteAt 0xFE9E#16 = 0xC2#8 ∧ lengthOf 0xC2#8 = 3 ∧
    State.reset.accessible 0xFE9F#16 = true := by decide

theorem witness_OpcodeFaultsOnlyThere :
    stops (poke State.reset [(0x0100#16, 0xFD#8)]) (.invalidOpcode 0xFD#8 0x0100#16) = true ∧
    stops (poke State.reset [(0x0100#16, 0x76#8)]) (.unimplementedInstruction 0x76#8 0x0100#16) = true := by decide

/-- The lowest and the highest source, the stack in reach. -/
theorem witness_InterruptDispatch :
    ([(0x01#8, 0), (0x10#8, 4)].all fun x =>
      let s := { interruptState x.1 x.1 State.reset with ime := true }
      let p := s.byteAt 0xFFFF#16 &&& (s.noteRead 0xFFFF#16).byteAt 0xFF0F#16 &&& 0x1F#8
      s.interruptExt && s.ime && s.accessible 0xFFFF#16 && s.accessible 0xFF0F#16 && p.getLsbD x.2 &&
        (List.range x.2).all (fun k => !p.getLsbD k) && s.wordReady (s.sp - 2#16)) = true := by decide

theorem witness_HaltedIdles :
    ({ extended with halted := true } : State).halted = true ∧ extended.accessible 0xFFFF#16 = true ∧ extended.accessible 0xFF0F#16 = true ∧
    extended.byteAt 0xFFFF#16 &&& (extended.noteRead 0xFFFF#16).byteAt 0xFF0F#16 &&& 0x1F#8 = 0#8 := by decide

/-- An instruction after an `EI`, an `EI`, a `DI`, each completed. -/
theorem witness_EiTakesEffectAfterNextInstruction :
    (∃ t, settleEi true .nop (exec .nop { extended with eiPending := false }) = .next t ∧ t.ime = true) ∧
    (∃ t, settleEi false .ei (exec .ei extended) = .next t ∧ t.eiPending = true) ∧
    ∃ t, settleEi true .di (exec .di { extended with eiPending := false }) = .next t ∧ t.ime = false :=
  ⟨⟨_, rfl, rfl⟩, ⟨_, rfl, rfl⟩, ⟨_, rfl, rfl⟩⟩

/-- A legal state that steps. -/
theorem witness_StepKeepsInvariant : State.reset.Inv ∧ ∃ t, step State.reset = .next t :=
  ⟨⟨by decide, by decide, by decide, by decide, by decide, by decide⟩, ⟨_, rfl⟩⟩

/-- A step of the base core, and one with the extension present. -/
theorem witness_StepKeepsImageAndWiring :
    (∃ t, step State.reset = .next t) ∧ State.reset.interruptExt = false ∧
    ∃ t, step { State.reset with interruptExt := true, handlers := { Handlers.none with io := .ifOnly, ie := .storage } } = .next t :=
  ⟨⟨_, rfl⟩, rfl, ⟨_, rfl⟩⟩

/-- A launch with the smallest legal image that gives a state; the byte of index 0 is in it. -/
theorem witness_ConstructionGivesLegalState :
    ∃ s, State.init Launch.default = some s ∧ 0 < Launch.default.image.length / 0x4000 * 0x4000 := by
  have hc : cellsOfBytes 0 ((List.replicate 0x8000 0x00#8).take ((List.replicate 0x8000 0x00#8).length / Config.romBankSize * Config.romBankSize)) = [] := by
    rw [List.length_replicate, List.take_replicate]
    exact cellsOfBytes_replicate _ _
  have hl : Launch.default.image.length = 0x8000 := List.length_replicate
  have hm : Launch.default.memory = Memory.empty := by
    unfold Launch.memory Launch.romBanks
    rw [show Launch.default.image = List.replicate 0x8000 0x00#8 from rfl, hc]
    rfl
  have hok : Launch.default.legal = true := by
    unfold Launch.legal
    rw [hm, wf_empty, hl]
    rfl
  refine ⟨_, by unfold State.init; rw [hok]; exact if_pos rfl, ?_⟩
  rw [hl]
  decide

/-- A run that goes on and one that stops. -/
theorem witness_RunStopsAtFirstFault :
    (∃ t, step State.reset = .next t) ∧ (∃ t, run State.reset 1 = .ran t 1) ∧
    step (poke State.reset [(0x0100#16, 0xDD#8)]) = .fault (.invalidOpcode 0xDD#8 0x0100#16) ∧
    run (poke State.reset [(0x0100#16, 0xDD#8)]) 1 = .stopped (.invalidOpcode 0xDD#8 0x0100#16) 0 :=
  ⟨⟨_, rfl⟩, ⟨_, rfl⟩, by rfl, by decide⟩

theorem witness_DisassemblyAgrees :
    (poke State.reset [(0x0100#16, 0x3E#8), (0x0101#16, 0x7F#8)]).bytesFrom 0x0100#16 2 = encode (.ldAN8 0x7F#8) ∧
    State.reset.bytesReady 0x0100#16 2 = true ∧ State.reset.accessible 0xFEA0#16 = false ∧ State.reset.noDevice = true ∧
    (∃ r, mnemonic State.reset 0x0100#16 = .ok r) ∧ ∃ k, mnemonic State.reset 0xFEA0#16 = .error k :=
  ⟨by decide, by decide, by decide, by decide, ⟨_, rfl⟩, ⟨_, rfl⟩⟩
end Sys2Proof.Tests
end

section
/-! PROOF of O58. What no step can change, as one value computed from the state (`State.fixedPart`): one rule per
operation, one per form, and then the fetch, the interrupt check, the dispatch and the step each keep it
(spec 00_scope.md R5; 10_state.md R33; 20_memory.md R59; 60_exceptions.md R310). -/

namespace Sys2Proof.Machine

/-! ### The part of a state that no step changes -/

/-- The image, the bank selectors, what the launch fixed, and the interrupt bits where they are out of use. -/
structure FixedPart where
  image : Nat → Byte
  wramSlot1 : Fin 8
  romSlot1 : Nat
  eramBank : Fin 1
  romBanks : Nat
  handlers : Handlers
  interruptExt : Bool
  /-- `ime`, `halted`, `ei_pending` in the base core (R310); the extension is free to change them. -/
  baseControl : Option (Bool × Bool × Bool)

/-- The fixed part of a state. -/
def State.fixedPart (s : State) : FixedPart :=
  { image := fun k => s.mem.read ⟨.rom, k⟩
    wramSlot1 := s.wramSlot1
    romSlot1 := s.romSlot1
    eramBank := s.eramBank
    romBanks := s.romBanks
    handlers := s.handlers
    interruptExt := s.interruptExt
    baseControl := if s.interruptExt then none else some (s.ime, s.halted, s.eiPending) }

/-- Equal fixed parts, field by field. -/
theorem fixedPart_eq_iff (s t : State) :
    t.fixedPart = s.fixedPart ↔
      (∀ k : Nat, t.mem.read ⟨.rom, k⟩ = s.mem.read ⟨.rom, k⟩) ∧
      t.wramSlot1 = s.wramSlot1 ∧ t.romSlot1 = s.romSlot1 ∧ t.eramBank = s.eramBank ∧ t.romBanks = s.romBanks ∧
      t.handlers = s.handlers ∧ t.interruptExt = s.interruptExt ∧
      (s.interruptExt = false → t.ime = s.ime ∧ t.halted = s.halted ∧ t.eiPending = s.eiPending) := by
  simp only [State.fixedPart, FixedPart.mk.injEq, funext_iff]
  cases s.interruptExt <;> cases t.interruptExt <;> simp

theorem interruptExt_of_fixedPart {s t : State} (h : t.fixedPart = s.fixedPart) : t.interruptExt = s.interruptExt :=
  congrArg FixedPart.interruptExt h

/-! ### Each operation keeps it -/

theorem fixedPart_setReg (s : State) (r : Reg8) (v : Byte) : (s.setReg r v).fixedPart = s.fixedPart := by
  cases r <;> rfl

theorem fixedPart_setPair (s : State) (p : Pair) (w : Word) : (s.setPair p w).fixedPart = s.fixedPart := by
  cases p <;> rfl

theorem fixedPart_setStackPair (s : State) (p : StackPair) (w : Word) :
    (s.setStackPair p w).fixedPart = s.fixedPart := by
  cases p <;> rfl

theorem fixedPart_jump (s : State) (w : Word) : (s.jump w).fixedPart = s.fixedPart := rfl

/-- The registers, pc, the record of device calls and the cycle count are no part of it. -/
theorem fixedPart_local {s : State} {a f b c d e h l : Byte} {sp pc : Word} {calls : List ExtCall} {n : Nat} :
    State.fixedPart { s with a, f, b, c, d, e, h, l, sp, pc, extCalls := calls, cycles := n } = s.fixedPart := rfl

theorem fixedPart_setHl (s : State) (w : Word) : (s.setHl w).fixedPart = s.fixedPart := rfl

theorem fixedPart_applyAlu (s : State) (op : AluOp) (v : Byte) : (applyAlu op v s).fixedPart = s.fixedPart := rfl

theorem fixedPart_noteRead (s : State) (a : Word) : (s.noteRead a).fixedPart = s.fixedPart := by
  rw [noteRead_onlyCalls]; rfl

theorem fixedPart_store (s : State) (a : Word) (v : Byte) : (s.store a v).fixedPart = s.fixedPart :=
  (fixedPart_eq_iff s _).mpr ⟨read_store_rom s a v, by simp⟩

/-- A read of `(HL)` and then a write of it. -/
theorem fixedPart_noteRead_store (s : State) (a : Word) (v : Byte) :
    ((s.noteRead a).store a v).fixedPart = s.fixedPart :=
  (fixedPart_store _ a v).trans (fixedPart_noteRead s a)

theorem fixedPart_storeWord (s : State) (a w : Word) : (s.storeWord a w).fixedPart = s.fixedPart :=
  (fixedPart_store _ (a + 1#16) (hiByte w)).trans (fixedPart_store s a (loByte w))

theorem fixedPart_pushed (s : State) (w : Word) : (s.pushed w).fixedPart = s.fixedPart :=
  fixedPart_local.trans (fixedPart_storeWord s (s.sp - 2#16) w)

theorem fixedPart_popped (s : State) : s.popped.fixedPart = s.fixedPart :=
  fixedPart_local.trans ((fixedPart_noteRead _ (s.sp + 1#16)).trans (fixedPart_noteRead s s.sp))

/-- The interrupt bits may change where the extension is present, and must not in the base core (R310, R320). -/
theorem fixedPart_control (s : State) (i h e : Bool)
    (base : s.interruptExt = false → i = s.ime ∧ h = s.halted ∧ e = s.eiPending) :
    State.fixedPart { s with ime := i, halted := h, eiPending := e } = s.fixedPart :=
  (fixedPart_eq_iff s _).mpr ⟨fun _ => rfl, rfl, rfl, rfl, rfl, rfl, rfl, base⟩

theorem fixedPart_control_of_ext {s : State} (hx : s.interruptExt = true) (i h e : Bool) :
    State.fixedPart { s with ime := i, halted := h, eiPending := e } = s.fixedPart :=
  fixedPart_control s i h e fun hn => absurd hx (by simp [hn])

/-! ### Each form, and each instruction that completes, keeps it -/

/-- A form that completed is none of those that stop. -/
theorem stopsAlways_of_next {s t : State} {f : Form} (h : runForm s f = .next t) : stopsAlways s f = false := by
  cases f with
  | illegal op => cases h
  | halt | stop =>
    cases hx : s.interruptExt
    · simp [runForm, enterHalt, hx] at h
    · simp [stopsAlways, hx]
  | _ => rfl

/-- The forms that set interrupt bits (`HALT`, `STOP`, `DI`, `EI`, `RETI`) do so with the extension alone. -/
theorem fixedPart_nextOf {s : State} {f : Form} (hs : stopsAlways s f = false) :
    (nextOf s f).fixedPart = s.fixedPart := by
  cases f with
  | ldRegReg | ldRegImm | incReg | decReg | rotReg | resReg | setReg =>
    exact fixedPart_local.trans (fixedPart_setReg s _ _)
  | ldPairImm | incPair | decPair => exact fixedPart_local.trans (fixedPart_setPair s _ _)
  | ldRegMem | loadA | loadAbs | loadHighImm | loadHighC =>
    exact fixedPart_local.trans ((fixedPart_setReg _ _ _).trans (fixedPart_noteRead s _))
  | loadAStep =>
    exact fixedPart_local.trans ((fixedPart_setHl _ _).trans ((fixedPart_setReg _ _ _).trans (fixedPart_noteRead s _)))
  | aluMem => exact fixedPart_local.trans ((fixedPart_applyAlu _ _ _).trans (fixedPart_noteRead s _))
  | bitMem => exact fixedPart_local.trans (fixedPart_noteRead s _)
  | ldMemReg | ldMemImm | storeA | storeAbs | storeHighImm | storeHighC =>
    exact fixedPart_local.trans (fixedPart_store s _ _)
  | storeAStep => exact fixedPart_local.trans ((fixedPart_setHl _ _).trans (fixedPart_store s _ _))
  | incMem | decMem | rotMem | resMem | setMem => exact fixedPart_local.trans (fixedPart_noteRead_store s _ _)
  | ldMemSp => exact fixedPart_local.trans (fixedPart_storeWord s _ _)
  | push | call | rst => exact fixedPart_local.trans (fixedPart_pushed s _)
  | pop => exact fixedPart_local.trans ((fixedPart_setStackPair _ _ _).trans (fixedPart_popped s))
  | ret => exact fixedPart_local.trans (fixedPart_popped s)
  | callCond cc =>
    cases hc : s.cond cc <;> simp only [nextOf, hc]
    · exact fixedPart_local
    · exact fixedPart_local.trans (fixedPart_pushed s _)
  | retCond cc =>
    cases hc : s.cond cc <;> simp only [nextOf, hc]
    · exact fixedPart_local
    · exact fixedPart_local.trans (fixedPart_popped s)
  | jpCond cc | jrCond cc => cases hc : s.cond cc <;> simp only [nextOf, hc] <;> exact fixedPart_local
  | halt | stop =>
    have hx : s.interruptExt = true := by simpa [stopsAlways] using hs
    exact fixedPart_control_of_ext hx s.ime true s.eiPending
  | di =>
    exact fixedPart_control s (s.ime && !s.interruptExt) s.halted (s.eiPending && !s.interruptExt)
      fun hx => by simp [hx]
  | ei => exact fixedPart_control s s.ime s.halted (s.eiPending || s.interruptExt) fun hx => by simp [hx]
  | reti =>
    calc (nextOf s .reti).fixedPart
      _ = State.fixedPart { s.popped with ime := s.ime || s.interruptExt } := rfl
      _ = s.popped.fixedPart := fixedPart_control _ _ _ _ fun hx => by simp_all [State.popped, State.noteWord]
      _ = s.fixedPart := fixedPart_popped s
  | _ => exact fixedPart_local

theorem fixedPart_exec {i : Instr} {s t : State} (h : exec i s = .next t) : t.fixedPart = s.fixedPart := by
  rw [exec_next h]
  exact fixedPart_nextOf (stopsAlways_of_next (exec_eq_effect i s ▸ h))

/-! ### The operations that may fail, where they do not -/

/-- A sequence that succeeded, taken apart. -/
theorem bind_eq_ok {α β : Type} {x : Res α} {k : α → Res β} {r : β} (h : (x >>= k) = .ok r) :
    ∃ u, x = .ok u ∧ k u = .ok r := by
  cases x with
  | error e => cases h
  | ok u => exact ⟨u, rfl, h⟩

theorem fixedPart_of_readsOnly {s t : State} (h : s.readsOnly t) : t.fixedPart = s.fixedPart := by
  rw [h.1]; rfl

theorem fixedPart_writeByte {s t : State} {a : Word} {v : Byte} (h : s.writeByte a v = .ok t) :
    t.fixedPart = s.fixedPart := by
  rw [writeByte_eq] at h
  split at h
  · cases h; exact fixedPart_store s a v
  · cases h

theorem fixedPart_push {s t : State} {w : Word} (h : s.push w = .ok t) : t.fixedPart = s.fixedPart := by
  rw [push_eq] at h
  split at h
  · cases h; exact fixedPart_pushed s w
  · cases h

theorem fetchInstr_readsOnly {s : State} {x : Fetched} (h : fetchInstr s = .ok x) : s.readsOnly x.after := by
  obtain ⟨⟨op, t⟩, hr, h⟩ := bind_eq_ok h
  dsimp only at h
  split at h
  · cases h
  · exact fetchRest_after (readsOnly_readByte (readsOnly_refl s) hr) h

theorem pendingSources_readsOnly {s t : State} {p : Byte} (h : s.pendingSources = .ok (p, t)) : s.readsOnly t := by
  obtain ⟨⟨ie, u⟩, hu, h⟩ := bind_eq_ok h
  obtain ⟨⟨rq, v⟩, hv, h⟩ := bind_eq_ok h
  cases h
  exact readsOnly_readByte (readsOnly_readByte (readsOnly_refl s) hu) hv

/-- Taking an interrupt (R324), which only the extension does. -/
theorem fixedPart_takeInterrupt {s t : State} {i : Nat} (hx : s.interruptExt = true)
    (h : s.takeInterrupt i = .ok t) : t.fixedPart = s.fixedPart := by
  obtain ⟨⟨rq, u⟩, hu, h⟩ := bind_eq_ok h
  obtain ⟨v, hv, h⟩ := bind_eq_ok h
  obtain ⟨w, hw, h⟩ := bind_eq_ok h
  cases h
  calc (w.jump (vectorOf i)).fixedPart
    _ = w.fixedPart := fixedPart_jump w _
    _ = v.fixedPart := fixedPart_push hw
    _ = u.fixedPart := fixedPart_writeByte hv
    _ = State.fixedPart { s with ime := false } := fixedPart_of_readsOnly (readsOnly_readByte (readsOnly_refl _) hu)
    _ = s.fixedPart := fixedPart_control_of_ext hx false s.halted s.eiPending

/-! ### Each kind of step keeps it -/

/-- An instruction run after its fetch. -/
theorem fixedPart_exec_start {s t : State} {x : Fetched} (hf : fetchInstr s = .ok x)
    (h : exec x.instr x.start = .next t) : t.fixedPart = s.fixedPart :=
  calc t.fixedPart
    _ = x.start.fixedPart := fixedPart_exec h
    _ = x.after.fixedPart := fixedPart_jump x.after x.next
    _ = s.fixedPart := fixedPart_of_readsOnly (fetchInstr_readsOnly hf)

/-- The step of the base core (R94). -/
theorem fixedPart_runInstruction {s t : State} (h : runInstruction s = .next t) : t.fixedPart = s.fixedPart := by
  unfold runInstruction at h
  split at h
  · cases h
  · rename_i x hf; exact fixedPart_exec_start hf h

/-- Settling `ime` after an instruction, which only the extension does. -/
theorem fixedPart_settleEi {s t : State} {e : Bool} {i : Instr} {o : Out} (hx : s.interruptExt = true)
    (ho : ∀ u, o = .next u → u.fixedPart = s.fixedPart) (h : settleEi e i o = .next t) : t.fixedPart = s.fixedPart := by
  cases o with
  | next u =>
    have hu := ho u rfl
    have hux := (interruptExt_of_fixedPart hu).trans hx
    cases h
    split
    · exact (fixedPart_control_of_ext hux true u.halted u.eiPending).trans hu
    · exact hu
  | fault k => cases h
  | refused r => cases h

/-- The instruction part of R324. -/
theorem fixedPart_runAfterCheck {s t : State} (hx : s.interruptExt = true) (h : runAfterCheck s = .next t) :
    t.fixedPart = s.fixedPart := by
  unfold runAfterCheck at h
  split at h
  · cases h
  · rename_i x hf
    refine fixedPart_settleEi hx (fun u hu => ?_) h
    exact (fixedPart_exec_start hf hu).trans (fixedPart_control_of_ext hx s.ime s.halted false)

/-- Idling, dispatching or running an instruction (R324). -/
theorem fixedPart_stepWithPending {s t : State} {pending : Byte} (hx : s.interruptExt = true)
    (h : stepWithPending pending s = .next t) : t.fixedPart = s.fixedPart := by
  have awake : State.fixedPart { s with halted := false } = s.fixedPart := fixedPart_control_of_ext hx s.ime false s.eiPending
  unfold stepWithPending at h
  split at h
  · cases h; rfl
  · refine Eq.trans ?_ awake
    dsimp only at h
    split at h
    · cases hi : State.takeInterrupt { s with halted := false } (lowestSource pending) with
      | error k => simp [hi] at h
      | ok u =>
        rw [hi] at h
        cases h
        exact fixedPart_local.trans (fixedPart_takeInterrupt hx hi)
    · exact fixedPart_runAfterCheck hx h

/-- The step with the extension (R324). -/
theorem fixedPart_stepWithInterrupts {s t : State} (hx : s.interruptExt = true) (h : stepWithInterrupts s = .next t) :
    t.fixedPart = s.fixedPart := by
  unfold stepWithInterrupts at h
  split at h
  · cases h
  · rename_i pending u hp
    have hu := fixedPart_of_readsOnly (pendingSources_readsOnly hp)
    exact (fixedPart_stepWithPending ((interruptExt_of_fixedPart hu).trans hx) h).trans hu

theorem fixedPart_step {s t : State} (h : step s = .next t) : t.fixedPart = s.fixedPart := by
  unfold step oneStep at h
  split at h
  · rename_i hx; exact fixedPart_stepWithInterrupts hx h
  · exact fixedPart_runInstruction h

/-- Settles O58: every step keeps the fixed part, and two states with the same one agree on all that O58 names. -/
theorem stepKeepsImageAndWiring : Obligations.StepKeepsImageAndWiring := by
  unfold Obligations.StepKeepsImageAndWiring
  intro s t h
  exact (fixedPart_eq_iff s t).mp (fixedPart_step h)

end Sys2Proof.Machine
end

section
/-! PROOF. One rule per field for the word store, the push and the pop, and what writing registers leaves: the frame
rules that the statements over all instructions use (spec 10_state.md R22; 41_load16.md, "The stack"). -/

namespace Sys2Proof.Machine

/-! ### The 8-bit registers -/

/-- The 8-bit registers are A to L alone: no other field is one of them. -/
theorem reg_local {s : State} {f : Byte} {sp pc : Word} {i h e : Bool} {m : Memory} {calls : List ExtCall} {n : Nat}
    {r : Reg8} :
    State.reg { s with f, sp, pc, ime := i, halted := h, eiPending := e, mem := m, extCalls := calls, cycles := n } r =
      s.reg r := by
  cases r <;> rfl

theorem reg_applyAlu {s : State} {op : AluOp} {v : Byte} {r : Reg8} (h : (op != .cp && r == .a) = false) :
    (applyAlu op v s).reg r = s.reg r := by
  cases r with
  | a => cases op <;> first | rfl | cases h
  | _ => rfl

/-- Writing A leaves every other 8-bit register. -/
theorem reg_setA {s : State} {v f : Byte} {n : Nat} {r : Reg8} (h : (r == .a) = false) :
    State.reg { s with a := v, f, cycles := n } r = s.reg r := by
  cases r with
  | a => cases h
  | _ => rfl

theorem reg_setHl {s : State} {w : Word} {r : Reg8} (h : (r == .h || r == .l) = false) :
    (s.setHl w).reg r = s.reg r := by
  cases r with
  | h | l => cases h
  | _ => rfl

theorem reg_setPair {s : State} {p : Pair} {w : Word} {r : Reg8} (h : p.has r = false) :
    (s.setPair p w).reg r = s.reg r := by
  cases p <;> cases r <;> first | rfl | cases h

theorem reg_setStackPair {s : State} {p : StackPair} {w : Word} {r : Reg8} (h : p.has r = false) :
    (s.setStackPair p w).reg r = s.reg r := by
  cases p <;> cases r <;> first | rfl | cases h

theorem sp_setPair {s : State} {p : Pair} {w : Word} (h : (p == .sp) = false) : (s.setPair p w).sp = s.sp := by
  cases p with
  | sp => cases h
  | _ => rfl

/-! ### The word store, the push and the pop -/

@[simp] theorem storeWord_reg (s : State) (a w : Word) (r : Reg8) : (s.storeWord a w).reg r = s.reg r := by
  simp [State.storeWord]

@[simp] theorem storeWord_f (s : State) (a w : Word) : (s.storeWord a w).f = s.f := by simp [State.storeWord]

@[simp] theorem storeWord_sp (s : State) (a w : Word) : (s.storeWord a w).sp = s.sp := by simp [State.storeWord]

@[simp] theorem storeWord_pc (s : State) (a w : Word) : (s.storeWord a w).pc = s.pc := by simp [State.storeWord]

@[simp] theorem storeWord_ime (s : State) (a w : Word) : (s.storeWord a w).ime = s.ime := by simp [State.storeWord]

@[simp] theorem storeWord_halted (s : State) (a w : Word) : (s.storeWord a w).halted = s.halted := by
  simp [State.storeWord]

@[simp] theorem storeWord_eiPending (s : State) (a w : Word) : (s.storeWord a w).eiPending = s.eiPending := by
  simp [State.storeWord]

@[simp] theorem pushed_reg (s : State) (w : Word) (r : Reg8) : (s.pushed w).reg r = s.reg r :=
  reg_local.trans (storeWord_reg s (s.sp - 2#16) w r)

@[simp] theorem pushed_f (s : State) (w : Word) : (s.pushed w).f = s.f := by simp [State.pushed]

@[simp] theorem pushed_pc (s : State) (w : Word) : (s.pushed w).pc = s.pc := by simp [State.pushed]

@[simp] theorem pushed_mem (s : State) (w : Word) : (s.pushed w).mem = (s.storeWord (s.sp - 2#16) w).mem := rfl

@[simp] theorem pushed_ime (s : State) (w : Word) : (s.pushed w).ime = s.ime := by simp [State.pushed]

@[simp] theorem pushed_halted (s : State) (w : Word) : (s.pushed w).halted = s.halted := by simp [State.pushed]

@[simp] theorem pushed_eiPending (s : State) (w : Word) : (s.pushed w).eiPending = s.eiPending := by
  simp [State.pushed]

@[simp] theorem pushed_extCalls (s : State) (w : Word) :
    (s.pushed w).extCalls = (s.storeWord (s.sp - 2#16) w).extCalls := rfl

@[simp] theorem popped_reg (s : State) (r : Reg8) : s.popped.reg r = s.reg r :=
  reg_local.trans (by simp [State.noteWord])

@[simp] theorem popped_f (s : State) : s.popped.f = s.f := by simp [State.popped, State.noteWord]

@[simp] theorem popped_pc (s : State) : s.popped.pc = s.pc := by simp [State.popped, State.noteWord]

@[simp] theorem popped_mem (s : State) : s.popped.mem = s.mem := by simp [State.popped, State.noteWord]

@[simp] theorem popped_ime (s : State) : s.popped.ime = s.ime := by simp [State.popped, State.noteWord]

@[simp] theorem popped_halted (s : State) : s.popped.halted = s.halted := by simp [State.popped, State.noteWord]

@[simp] theorem popped_eiPending (s : State) : s.popped.eiPending = s.eiPending := by
  simp [State.popped, State.noteWord]

/-- With no device a store calls none. -/
theorem store_extCalls {s : State} (hd : s.noDevice = true) (a : Word) (v : Byte) :
    (s.store a v).extCalls = s.extCalls := by
  unfold State.store
  split
  · rfl
  · rename_i g off ht; exact absurd ht (target_ne_device hd a g off)
  · rfl

theorem storeWord_extCalls {s : State} (hd : s.noDevice = true) (a w : Word) :
    (s.storeWord a w).extCalls = s.extCalls := by
  have hd' : (s.store a (loByte w)).noDevice = true := by simpa [State.noDevice] using hd
  exact (store_extCalls hd' _ _).trans (store_extCalls hd _ _)

theorem popped_extCalls {s : State} (hd : s.noDevice = true) : s.popped.extCalls = s.extCalls := by
  simp [State.popped, State.noteWord, noteRead_noDevice hd]

@[simp] theorem applyAlu_f (op : AluOp) (v : Byte) (s : State) :
    (applyAlu op v s).f = (op.apply s.a v (flagC s.f)).f := rfl

theorem wf_storeWord {s : State} {n : Nat} (hw : s.mem.wf n = true) (a w : Word) :
    (s.storeWord a w).mem.wf n = true :=
  wf_store (wf_store hw a (loByte w)) (a + 1#16) (hiByte w)

end Sys2Proof.Machine
end

section
/-! PROOF of O16 and O44. The four flags: what one accessor reads and writes, and which forms leave which flag
(spec 10_state.md R28 to R30). -/

namespace Sys2Proof.Machine

/-! ### One flag of F -/

/-- The update that `setflags` makes of a flag (00_scope.md R10). -/
def flagUpdate (z n h c : Option Bool) : Flag → Option Bool
  | .z => z
  | .n => n
  | .h => h
  | .c => c

/-- `setflags` gives a flag its update, and leaves one that has none. -/
theorem flag_setFlags (f : Byte) (z n h c : Option Bool) (k : Flag) :
    flag (setFlags f z n h c) k = (flagUpdate z n h c k).getD (flag f k) := by
  obtain ⟨hz, hn, hh, hc, -⟩ := flagsAre_setFlags f z n h c
  cases k
  · exact hz
  · exact hn
  · exact hh
  · exact hc

@[simp] theorem setFlags_low (f : Byte) (z n h c : Option Bool) : (setFlags f z n h c).toNat % 16 = 0 := by
  simp [setFlags]

theorem flag_withFlag (f : Byte) (k j : Flag) (v : Bool) :
    flag (withFlag f k v) j = if j = k then v else flag f j := by
  cases k <;> exact (flag_setFlags _ _ _ _ _ j).trans (by cases j <;> rfl)

theorem withFlag_low (f : Byte) (k : Flag) (v : Bool) : (withFlag f k v).toNat % 16 = 0 := by
  cases k <;> exact setFlags_low _ _ _ _ _

/-- Settles O16: each flag is its bit, and `setflags` with one update leaves the other three. -/
theorem flagBitIsolation : Obligations.FlagBitIsolation := by
  unfold Obligations.FlagBitIsolation
  exact fun f => ⟨⟨rfl, rfl, rfl, rfl⟩, fun k j v => ⟨flag_withFlag f k j v, withFlag_low f k v⟩⟩

/-! ### The flags that each form leaves -/

@[simp] theorem apply_low (op : AluOp) (a v : Byte) (carry : Bool) : (op.apply a v carry).f.toNat % 16 = 0 := by
  cases op <;> exact packFlags_low _ _ _ _

/-- A form that writes no flag leaves F whole. -/
theorem nextOf_f {s : State} {f : Form} (h : ∀ k, f.writesFlag k = false) : (nextOf s f).f = s.f := by
  cases f with
  | aluReg | aluMem | aluImm | incReg | incMem | decReg | decMem | daa | scf | ccf | addHl | addSp | ldHlSp
  | rotA | rotReg | rotMem | bitReg | bitMem | cpl => cases h .h
  | pop p =>
    cases p
    case af => cases h .z
    all_goals exact popped_f s
  | callCond cc | retCond cc | jpCond cc | jrCond cc => cases hc : s.cond cc <;> simp [nextOf, hc]
  | _ => simp [nextOf]

/-- A form leaves each flag that it does not write. -/
theorem flag_nextOf {s : State} {f : Form} {k : Flag} (h : f.writesFlag k = false) :
    flag (nextOf s f).f k = flag s.f k := by
  cases f with
  | aluReg | aluMem | aluImm | addSp | ldHlSp | rotA | rotReg | rotMem => cases h
  | incReg | incMem | decReg | decMem | daa | cpl | scf | ccf | addHl | bitReg | bitMem =>
    refine (flag_setFlags _ _ _ _ _ k).trans ?_
    cases k <;> first | rfl | cases h
  | pop p =>
    cases p
    case af => cases h
    all_goals exact congrArg (flag · k) (nextOf_f fun _ => rfl)
  | _ => exact congrArg (flag · k) (nextOf_f fun _ => rfl)

/-- Bits 3:0 of F stay zero (R28). -/
theorem nextOf_low {s : State} {f : Form} (h : s.f.toNat % 16 = 0) : (nextOf s f).f.toNat % 16 = 0 := by
  cases f with
  | aluReg | aluMem | aluImm => exact apply_low _ _ _ _
  | incReg | incMem | decReg | decMem | daa | cpl | scf | ccf | addHl | bitReg | bitMem => exact setFlags_low _ _ _ _ _
  | addSp | ldHlSp | rotA | rotReg | rotMem => exact packFlags_low _ _ _ _
  | pop p =>
    cases p
    case af => exact maskF_low _
    all_goals exact (congrArg (BitVec.toNat · % 16) (nextOf_f fun _ => rfl)).trans h
  | _ => exact (congrArg (BitVec.toNat · % 16) (nextOf_f fun _ => rfl)).trans h

/-- Settles O44: a completed instruction has left `nextOf` of its form, so the rules for forms are those for
instructions. -/
theorem flagFrame : Obligations.FlagFrame := by
  unfold Obligations.FlagFrame
  intro i s t h
  rw [exec_next h]
  exact ⟨fun _ => flag_nextOf, nextOf_f, nextOf_low⟩

end Sys2Proof.Machine
end

section
/-! PROOF of O15 and O43. Pairs and halves, and the registers that each form leaves (spec 10_state.md R22, R24, R26). -/

namespace Sys2Proof.Machine

/-! ### Pairs and halves -/

theorem pair_setPair (s : State) (p q : Pair) (w : Word) :
    (s.setPair p w).pair q = if q = p then w else s.pair q := by
  cases p <;> cases q <;> first | exact joinBytes_hi_lo w | rfl

theorem af_setPair (s : State) (p : Pair) (w : Word) : (s.setPair p w).af = s.af := by cases p <;> rfl

/-- A pair reads back as it was written, but for F's bits 3:0 in AF (R22, R156). -/
theorem stackPair_setStackPair {s : State} {p : StackPair} (hp : p ≠ .af) (w : Word) :
    (s.setStackPair p w).stackPair p = w := by
  cases p
  case af => exact absurd rfl hp
  all_goals exact joinBytes_hi_lo w

theorem stackPair_setStackPair_ne {s : State} {p q : StackPair} (h : q ≠ p) (w : Word) :
    (s.setStackPair p w).stackPair q = s.stackPair q := by
  cases p <;> cases q <;> first | exact absurd rfl h | rfl

theorem hiByte_toNat (w : Word) : (hiByte w).toNat = w.toNat / 256 := by
  have := w.isLt
  simp only [hiByte, BitVec.extractLsb'_toNat, Nat.shiftRight_eq_div_pow]
  omega

theorem loByte_toNat (w : Word) : (loByte w).toNat = w.toNat % 256 := by
  simp [loByte, BitVec.extractLsb'_toNat]

theorem maskF_toNat (v : Byte) : (maskF v).toNat = v.toNat / 16 * 16 := by revert v; decide

theorem maskF_loByte_toNat (w : Word) : (maskF (loByte w)).toNat = w.toNat / 16 % 16 * 16 := by
  rw [maskF_toNat, loByte_toNat]
  omega

/-- Settles O15: the rules above for each pair, and for a half the pair read as its two halves. -/
theorem pairsAndHalves : Obligations.PairsAndHalves := by
  unfold Obligations.PairsAndHalves
  intro s w v
  refine ⟨⟨rfl, rfl, rfl, rfl⟩, fun p => ⟨?_, fun q hq => ?_, af_setPair s p w, setPair_pc s p w⟩,
    fun p => ⟨fun hp => stackPair_setStackPair hp w, fun q hq => stackPair_setStackPair_ne hq w,
      setStackPair_sp s p w, setStackPair_pc s p w⟩,
    hiByte_toNat w, maskF_loByte_toNat w, fun r q => reg_setReg s r q v,
    fun r => ⟨setReg_f s r v, setReg_sp s r v, setReg_pc s r v⟩, ?_⟩
  · rw [pair_setPair, if_pos rfl]
  · rw [pair_setPair, if_neg hq]
  · simp [State.bc, State.de, State.hl, State.af, State.setReg]

/-! ### The registers that each form leaves -/

theorem reg_setReg_ne {s : State} {r q : Reg8} {v : Byte} (h : (q == r) = false) : (s.setReg r v).reg q = s.reg q := by
  rw [reg_setReg, if_neg (by simpa using h)]

theorem nextOf_reg {s : State} {f : Form} {r : Reg8} (h : f.writesReg r = false) : (nextOf s f).reg r = s.reg r := by
  cases f with
  | ldRegReg | ldRegImm | incReg | decReg | rotReg | resReg | setReg => exact reg_local.trans (reg_setReg_ne h)
  | ldRegMem | loadA | loadAbs | loadHighImm | loadHighC =>
    exact reg_local.trans ((reg_setReg_ne h).trans (noteRead_reg s _ r))
  | storeAStep => exact reg_local.trans ((reg_setHl h).trans (store_reg s _ _ r))
  | loadAStep =>
    simp only [Form.writesReg, Bool.or_assoc, Bool.or_eq_false_iff (x := r == .a)] at h
    exact reg_local.trans ((reg_setHl h.2).trans ((reg_setReg_ne h.1).trans (noteRead_reg s _ r)))
  | ldPairImm | incPair | decPair => exact reg_local.trans (reg_setPair h)
  | ldHlSp | addHl => exact reg_local.trans (reg_setHl h)
  | pop => exact reg_local.trans ((reg_setStackPair h).trans (popped_reg s r))
  | aluReg | aluImm => exact reg_local.trans (reg_applyAlu h)
  | aluMem => exact reg_local.trans ((reg_applyAlu h).trans (noteRead_reg s _ r))
  | daa | cpl | rotA => exact reg_setA h
  | ldMemReg | ldMemImm | storeA | storeAbs | storeHighImm | storeHighC => exact reg_local.trans (store_reg s _ _ r)
  | incMem | decMem | rotMem | resMem | setMem =>
    exact reg_local.trans ((store_reg _ _ _ r).trans (noteRead_reg s _ r))
  | bitMem => exact reg_local.trans (noteRead_reg s _ r)
  | ldMemSp => exact reg_local.trans (storeWord_reg s _ _ r)
  | push | call | rst => exact reg_local.trans (pushed_reg s _ r)
  | ret | reti => exact reg_local.trans (popped_reg s r)
  | callCond cc =>
    cases hc : s.cond cc <;> simp only [nextOf, hc]
    · exact reg_local
    · exact reg_local.trans (pushed_reg s _ r)
  | retCond cc =>
    cases hc : s.cond cc <;> simp only [nextOf, hc]
    · exact reg_local
    · exact reg_local.trans (popped_reg s r)
  | jpCond cc | jrCond cc => cases hc : s.cond cc <;> simp only [nextOf, hc] <;> exact reg_local
  | _ => exact reg_local

theorem nextOf_sp {s : State} {f : Form} (h : f.writesSp = false) : (nextOf s f).sp = s.sp := by
  cases f with
  | ldPairImm | incPair | decPair => exact sp_setPair h
  | ldSpHl | addSp | push | pop | call | callCond | rst | ret | retCond | reti => cases h
  | jpCond cc | jrCond cc => cases hc : s.cond cc <;> simp [nextOf, hc]
  | aluReg | aluMem | aluImm => simp [nextOf, applyAlu]
  | _ => simp [nextOf]

theorem nextOf_pc {s : State} {f : Form} (h : f.transfers = false) : (nextOf s f).pc = s.pc := by
  cases f with
  | jp | jpCond | jpHl | jr | jrCond | call | callCond | rst | ret | retCond | reti => cases h
  | aluReg | aluMem | aluImm => simp [nextOf, applyAlu]
  | _ => simp [nextOf]

/-- Settles O43: a completed instruction has left `nextOf` of its form. -/
theorem registerFrame : Obligations.RegisterFrame := by
  unfold Obligations.RegisterFrame
  intro i s t h
  rw [exec_next h]
  exact ⟨fun _ => nextOf_reg, nextOf_sp, nextOf_pc⟩

end Sys2Proof.Machine
end

section
/-! PROOF of O46. What the forms leave of the interrupt bits and of the record of device calls; the rest of O46 is in
the fixed part of O58 (spec 10_state.md R33; 60_exceptions.md R310, R327). -/

namespace Sys2Proof.Machine

/-! ### Which instructions have the forms that write interrupt bits -/

/-- The bytes of a well-formed instruction decode to it, with nothing left over. -/
theorem decode_encode {i : Instr} (hw : i.wf = true) : decode (encode i) = .ok (i, []) := by
  cases i with
  | prefixCb ext => cases hw
  | ldBcN16 w | ldAtN16Sp w | ldDeN16 w | ldHlN16 w | ldSpN16 w | jpNzN16 w | jpN16 w | callNzN16 w | jpZN16 w
  | callZN16 w | callN16 w | jpNcN16 w | callNcN16 w | jpCN16 w | callCN16 w | ldAtN16A w | ldAAtN16 w =>
    exact Laws.RoundTrip.word _ w []
  | _ => rfl

/-- The forms that the extended table has (30_encoding.md R104). -/
def Form.isExtended : Form → Bool
  | .rotReg _ _ | .rotMem _ | .bitReg _ _ | .bitMem _ | .resReg _ _ | .resMem _ | .setReg _ _ | .setMem _ => true
  | _ => false

theorem isExtended_formOf_extendedInstr (e : Byte) : (formOf (extendedInstr e)).isExtended = true := by
  have h : ∀ n : Fin 256, (formOf (extendedInstr (BitVec.ofFin n))).isExtended = true := by
    intro n
    fin_cases n <;> rfl
  exact h e.toFin

/-- An effect outside the extended table is that of the row itself. -/
theorem formOf_of_effectForm {i : Instr} {f : Form} (h : effectForm i = f) (hf : f.isExtended = false) :
    formOf i = f := by
  unfold effectForm at h
  split at h
  · rename_i ext _
    rw [← h, isExtended_formOf_extendedInstr] at hf
    cases hf
  · exact h

/-- Well-formed instructions of one form are equal: the form gives the bytes, and the bytes the instruction. -/
theorem eq_of_formOf_eq {i j : Instr} (hi : i.wf = true) (hj : j.wf = true) (h : formOf i = formOf j) : i = j := by
  have hbytes : encode i = encode j := by rw [encode_eq_formBytes, encode_eq_formBytes, h]
  have hd := decode_encode hi
  rw [hbytes, decode_encode hj] at hd
  cases hd
  rfl

/-- Outside the extended table no other instruction has the effect of `j`. -/
theorem effectForm_ne {i j : Instr} (hj : j.wf = true) (hf : (formOf j).isExtended = false) (h : i ≠ j) :
    effectForm i ≠ formOf j := by
  intro he
  have hi : i.wf = true := by
    unfold Instr.wf
    split
    · rename_i ext
      rw [← he] at hf
      exact hf.symm.trans (isExtended_formOf_extendedInstr ext)
    · rfl
  exact h (eq_of_formOf_eq hi hj (formOf_of_effectForm he hf))

/-! ### What each form leaves -/

theorem nextOf_ime {s : State} {f : Form} (hd : f ≠ .di) (hr : f ≠ .reti) : (nextOf s f).ime = s.ime := by
  cases f with
  | di => exact absurd rfl hd
  | reti => exact absurd rfl hr
  | callCond cc | retCond cc | jpCond cc | jrCond cc => cases hc : s.cond cc <;> simp [nextOf, hc]
  | aluReg | aluMem | aluImm => simp [nextOf, applyAlu]
  | _ => simp [nextOf]

theorem nextOf_eiPending {s : State} {f : Form} (hd : f ≠ .di) (he : f ≠ .ei) :
    (nextOf s f).eiPending = s.eiPending := by
  cases f with
  | di => exact absurd rfl hd
  | ei => exact absurd rfl he
  | callCond cc | retCond cc | jpCond cc | jrCond cc => cases hc : s.cond cc <;> simp [nextOf, hc]
  | aluReg | aluMem | aluImm => simp [nextOf, applyAlu]
  | _ => simp [nextOf]

theorem nextOf_halted {s : State} {f : Form} (hh : f ≠ .halt) (hs : ∀ n8, f ≠ .stop n8) :
    (nextOf s f).halted = s.halted := by
  cases f with
  | halt => exact absurd rfl hh
  | stop n8 => exact absurd rfl (hs n8)
  | callCond cc | retCond cc | jpCond cc | jrCond cc => cases hc : s.cond cc <;> simp [nextOf, hc]
  | aluReg | aluMem | aluImm => simp [nextOf, applyAlu]
  | _ => simp [nextOf]

/-- With no device a form makes no handler call: neither its reads nor its stores do. -/
theorem nextOf_extCalls {s : State} {f : Form} (hd : s.noDevice = true) : (nextOf s f).extCalls = s.extCalls := by
  cases f with
  | ldRegMem | loadA | loadAbs | loadHighImm | loadHighC | loadAStep | aluMem | bitMem =>
    simp [nextOf, applyAlu, noteRead_noDevice hd]
  | ldMemReg | ldMemImm | storeA | storeAbs | storeHighImm | storeHighC | storeAStep => simp [nextOf, store_extCalls hd]
  | incMem | decMem | rotMem | resMem | setMem => simp [nextOf, noteRead_noDevice hd, store_extCalls hd]
  | ldMemSp | push | call | rst => simp [nextOf, storeWord_extCalls hd]
  | pop | ret | reti => simp [nextOf, popped_extCalls hd]
  | callCond cc => cases hc : s.cond cc <;> simp [nextOf, hc, storeWord_extCalls hd]
  | retCond cc => cases hc : s.cond cc <;> simp [nextOf, hc, popped_extCalls hd]
  | jpCond cc | jrCond cc => cases hc : s.cond cc <;> simp [nextOf, hc]
  | aluReg | aluImm => simp [nextOf, applyAlu]
  | _ => simp [nextOf]

/-- Settles O46: the fixed part holds the wiring and, in the base core, the interrupt bits; the rest is `nextOf`. -/
theorem controlFrame : Obligations.ControlFrame := by
  unfold Obligations.ControlFrame
  intro i s t h
  obtain ⟨-, hwram, hrom, heram, hbanks, hhandlers, hext, hbase⟩ := (fixedPart_eq_iff s t).mp (fixedPart_exec h)
  have hnext := exec_next h
  refine ⟨⟨hwram, hrom, heram, hbanks, hhandlers, hext⟩, ?_, ?_, ?_, ?_⟩
  · rintro (hx | ⟨hd, hr⟩)
    · exact (hbase hx).1
    · rw [hnext]; exact nextOf_ime (effectForm_ne (j := .di) rfl rfl hd) (effectForm_ne (j := .reti) rfl rfl hr)
  · rintro (hx | ⟨hd, he⟩)
    · exact (hbase hx).2.2
    · rw [hnext]; exact nextOf_eiPending (effectForm_ne (j := .di) rfl rfl hd) (effectForm_ne (j := .ei) rfl rfl he)
  · rintro ⟨hh, hs⟩
    rw [hnext]
    exact nextOf_halted (effectForm_ne (j := .halt) rfl rfl hh) fun n8 => effectForm_ne (j := .stop n8) rfl rfl (hs n8)
  · intro hd
    rw [hnext]; exact nextOf_extCalls hd

end Sys2Proof.Machine
end

section
/-! PROOF of O55. Memory in canonical form and F's bits 3:0 zero, kept by each operation and each form; with the fixed
part of O58, which holds the rest of the invariant, a step keeps a legal state legal (spec 10_state.md R28, R33, R40). -/

namespace Sys2Proof.Machine

/-- The part of the invariant that is not in the fixed part: memory canonical for an image of `n` banks, and bits 3:0
of F zero. It reads `mem` and `f` alone, so an update of other fields keeps it by definition. -/
def State.canonical (n : Nat) (s : State) : Prop := s.mem.wf n = true ∧ s.f.toNat % 16 = 0

/-- The invariant, from its two parts: what a state shares with a legal one and what it must meet itself. -/
theorem inv_of_canonical {s t : State} (hs : s.Inv) (hfix : t.fixedPart = s.fixedPart)
    (hc : t.canonical s.romBanks) : t.Inv := by
  obtain ⟨-, hwram, hrom, -, hbanks, -, hext, hbase⟩ := (fixedPart_eq_iff s t).mp hfix
  exact
    { memory := hbanks ▸ hc.1
      flags := hc.2
      banks := hbanks ▸ hs.banks
      romSlot := by rw [hrom, hbanks]; exact hs.romSlot
      wramSlot := hwram ▸ hs.wramSlot
      base := fun hx => by
        have hx' : s.interruptExt = false := hext ▸ hx
        obtain ⟨hi, hh, he⟩ := hbase hx'
        rw [hi, hh, he]
        exact hs.base hx' }

/-! ### Each form, and each instruction that completes, keeps it -/

/-- Only stores touch memory, and a store keeps it canonical. -/
theorem wf_nextOf {s : State} {f : Form} {n : Nat} (hw : s.mem.wf n = true) : (nextOf s f).mem.wf n = true := by
  cases f with
  | ldMemReg | ldMemImm | storeA | storeAbs | storeHighImm | storeHighC | storeAStep => simp [nextOf, wf_store hw]
  | incMem | decMem | rotMem | resMem | setMem => simp [nextOf, wf_store, hw]
  | ldMemSp | push | call | rst => simp [nextOf, wf_storeWord hw]
  | callCond cc => cases hc : s.cond cc <;> simp [nextOf, hc, hw, wf_storeWord hw]
  | retCond cc | jpCond cc | jrCond cc => cases hc : s.cond cc <;> simp [nextOf, hc, hw]
  | aluReg | aluMem | aluImm => simp [nextOf, applyAlu, hw]
  | _ => simp [nextOf, hw]

theorem canonical_exec {i : Instr} {s t : State} {n : Nat} (hs : s.canonical n) (h : exec i s = .next t) :
    t.canonical n := by
  rw [exec_next h]
  exact ⟨wf_nextOf hs.1, nextOf_low hs.2⟩

/-! ### The operations that may fail, where they do not -/

theorem canonical_of_readsOnly {s t : State} {n : Nat} (hs : s.canonical n) (h : s.readsOnly t) : t.canonical n := by
  rw [h.1]; exact hs

theorem canonical_writeByte {s t : State} {n : Nat} {a : Word} {v : Byte} (hs : s.canonical n)
    (h : s.writeByte a v = .ok t) : t.canonical n := by
  rw [writeByte_eq] at h
  split at h
  · cases h; exact ⟨wf_store hs.1 a v, (store_f s a v).symm ▸ hs.2⟩
  · cases h

theorem canonical_push {s t : State} {n : Nat} {w : Word} (hs : s.canonical n) (h : s.push w = .ok t) :
    t.canonical n := by
  rw [push_eq] at h
  split at h
  · cases h; exact ⟨wf_storeWord hs.1 _ w, (pushed_f s w).symm ▸ hs.2⟩
  · cases h

/-- Taking an interrupt: `IF` read and written, pc pushed (R324). -/
theorem canonical_takeInterrupt {s t : State} {n i : Nat} (hs : s.canonical n) (h : s.takeInterrupt i = .ok t) :
    t.canonical n := by
  obtain ⟨⟨rq, u⟩, hu, h⟩ := bind_eq_ok h
  obtain ⟨v, hv, h⟩ := bind_eq_ok h
  obtain ⟨w, hw, h⟩ := bind_eq_ok h
  cases h
  have hread : u.canonical n :=
    canonical_of_readsOnly (s := { s with ime := false }) hs (readsOnly_readByte (readsOnly_refl _) hu)
  have hpush : w.canonical n := canonical_push (canonical_writeByte hread hv) hw
  exact hpush

/-! ### What a step is made of -/

theorem pendingSources_calls {s t : State} {p : Byte} (h : s.pendingSources = .ok (p, t)) :
    ∃ calls, t = { s with extCalls := calls } :=
  ⟨_, (pendingSources_readsOnly h).1⟩

/-- The state in which a fetched instruction runs: pc past it, and what a device saw of the reads (R94). -/
theorem fetched_start {s : State} {x : Fetched} (h : fetchInstr s = .ok x) :
    ∃ calls, x.start = { s with extCalls := calls, pc := x.next } := by
  have hafter : x.after = { s with extCalls := x.after.extCalls } := (fetchInstr_readsOnly h).1
  exact ⟨x.after.extCalls, congrArg (State.jump · x.next) hafter⟩

/-- Settling `ime` changes `ime` alone. -/
theorem settleEi_next {e : Bool} {i : Instr} {o : Out} {t : State} (h : settleEi e i o = .next t) :
    ∃ u ime, o = .next u ∧ t = { u with ime } := by
  cases o with
  | next u =>
    cases h
    split
    · exact ⟨u, true, rfl, rfl⟩
    · exact ⟨u, u.ime, rfl, rfl⟩
  | fault k => cases h
  | refused r => cases h

theorem finish_next {n : Nat} {r : Res State} {t : State} (h : finish n r = .next t) :
    ∃ u, r = .ok u ∧ t = { u with cycles := n } := by
  cases r with
  | error k => cases h
  | ok u => cases h; exact ⟨u, rfl, rfl⟩

/-- A completed step in either configuration idled, dispatched an interrupt, or executed an instruction. In each case
the state before the operation is `s` but for what the reads of the check and the fetch showed a device, pc past the
instruction, and interrupt bits. -/
theorem step_cases {s t : State} (h : step s = .next t) :
    (∃ calls, t = { s with extCalls := calls, cycles := 1 }) ∨
    (∃ calls i u, State.takeInterrupt { s with extCalls := calls, halted := false } i = .ok u ∧
      t = { u with cycles := 5 }) ∨
    ∃ i calls pc halted eiPending u ime,
      exec i { s with extCalls := calls, pc, halted, eiPending } = .next u ∧ t = { u with ime } := by
  unfold step oneStep at h
  split at h
  · unfold stepWithInterrupts at h
    split at h
    · cases h
    rename_i pending v hp
    obtain ⟨calls, rfl⟩ := pendingSources_calls hp
    unfold stepWithPending at h
    split at h
    · cases h
      exact .inl ⟨calls, rfl⟩
    dsimp only at h
    split at h
    · obtain ⟨u, hu, ht⟩ := finish_next h
      exact .inr (.inl ⟨calls, _, u, hu, ht⟩)
    · unfold runAfterCheck at h
      split at h
      · cases h
      rename_i x hf
      obtain ⟨u, ime, hu, ht⟩ := settleEi_next h
      obtain ⟨calls', hstart⟩ := fetched_start hf
      exact .inr (.inr ⟨x.instr, calls', x.next, false, false, u, ime, hstart ▸ hu, ht⟩)
  · unfold runInstruction at h
    split at h
    · cases h
    rename_i x hf
    obtain ⟨calls, hstart⟩ := fetched_start hf
    exact .inr (.inr ⟨x.instr, calls, x.next, s.halted, s.eiPending, t, t.ime, hstart ▸ h, rfl⟩)

theorem canonical_step {s t : State} {n : Nat} (hs : s.canonical n) (h : step s = .next t) : t.canonical n := by
  rcases step_cases h with ⟨calls, ht⟩ | ⟨calls, i, u, hu, ht⟩ | ⟨i, calls, pc, halted, eiPending, u, ime, hu, ht⟩
  · rw [ht]; exact hs
  · have hcu : u.canonical n := canonical_takeInterrupt (s := { s with extCalls := calls, halted := false }) hs hu
    rw [ht]; exact hcu
  · have hcu : u.canonical n := canonical_exec (s := { s with extCalls := calls, pc, halted, eiPending }) hs hu
    rw [ht]; exact hcu

/-- Settles O55: a step keeps both parts of the invariant. -/
theorem stepKeepsInvariant : Obligations.StepKeepsInvariant := by
  unfold Obligations.StepKeepsInvariant
  intro s t hs h
  exact inv_of_canonical hs (fixedPart_step h) (canonical_step ⟨hs.memory, hs.flags⟩ h)

end Sys2Proof.Machine
end

section
/-! PROOF of O57. The state that a legal launch gives, part by part (spec 70_reset_and_hazards.md R340 to R348). -/

namespace Sys2Proof.Machine

/-- F at launch: the given high half over four zero bits (R342). -/
theorem launchF_low (x : BitVec 4) : (x ++ 0#4).toNat % 16 = 0 := by revert x; decide

/-- The whole banks of the image are stored byte for byte (R343). -/
theorem read_launchMemory_rom (x : Launch) {k : Nat} (hk : k < x.romBanks * Config.romBankSize)
    (hlen : k < x.image.length) : x.memory.read ⟨.rom, k⟩ = x.image[k] := by
  have h := (cellsRead_cellsOfBytes (x.image.take (x.romBanks * Config.romBankSize)) 0 k).1
  rw [Nat.zero_add] at h
  refine h.trans ?_
  simp [hk, hlen]

theorem read_launchMemory_ie (x : Launch) (n : Nat) : x.memory.read ⟨.ie, n⟩ = 0x00#8 := rfl

/-- The other buffers are those given (R343). -/
theorem read_launchMemory_of_ne (x : Launch) {p : Loc} (hr : p.buf ≠ .rom) (hi : p.buf ≠ .ie) :
    x.memory.read p = x.buffers.read p := by
  obtain ⟨b, off⟩ := p
  cases b with
  | rom => exact absurd rfl hr
  | ie => exact absurd rfl hi
  | _ => rfl

theorem two_le_romBanks {x : Launch} (h : 0x8000 ≤ x.image.length) : 2 ≤ x.romBanks := by
  unfold Launch.romBanks Config.romBankSize
  omega

theorem inv_of_init {x : Launch} {s : State} (h : State.init x = some s) : s.Inv := by
  have hl := (init_isSome x).mp ⟨s, h⟩
  obtain ⟨hlen, hwram, hbuffers⟩ := (legal_iff x).mp hl
  rw [State.init, if_pos hl] at h
  cases h
  exact
    { memory := (wf_launchMemory x).mpr hbuffers
      flags := launchF_low x.fHigh
      banks := two_le_romBanks hlen
      romSlot := ⟨Nat.le_refl 1, two_le_romBanks hlen⟩
      wramSlot := hwram
      base := fun _ => ⟨rfl, rfl, rfl⟩ }

/-- Settles O57: a launch gives a state where it is legal, and the state holds what `init` puts in it. -/
theorem constructionGivesLegalState : Obligations.ConstructionGivesLegalState := by
  unfold Obligations.ConstructionGivesLegalState
  refine fun x => ⟨(init_isSome x).trans (legal_iff x), fun s h => ?_⟩
  have hinv := inv_of_init h
  rw [State.init, if_pos ((init_isSome x).mp ⟨s, h⟩)] at h
  cases h
  refine ⟨hinv, rfl, rfl, fun n hn => ?_, fun n hn => ?_, rfl, rfl, rfl, rfl, rfl, rfl, rfl, rfl, rfl, rfl, rfl, rfl,
    rfl, rfl, rfl, rfl, fun k hk => ?_, read_launchMemory_ie x, fun p => read_launchMemory_of_ne x⟩
  · exact (BitVec.getLsbD_append ..).trans (by simp [hn])
  · exact (BitVec.getLsbD_append ..).trans (by simp)
  · exact read_launchMemory_rom x hk _

end Sys2Proof.Machine
end

section
/-! PROOF of O48. The step of the base core on the bytes of an instruction (spec 30_encoding.md R94). -/

namespace Sys2Proof.Machine

/-- `HALT` and `STOP` alone begin with an opcode that needs the extension. -/
theorem halt_or_stop_of_needsExtension {i : Instr} {op : Byte} {rest : List Byte} (hw : i.wf = true)
    (he : encode i = op :: rest) (hn : needsExtension op = true) : i = .halt ∨ ∃ n8, i = .stop n8 := by
  have hd := decode_encode hw
  rw [he] at hd
  simp only [needsExtension, Bool.or_eq_true, beq_iff_eq] at hn
  rcases hn with rfl | rfl
  · cases hd; exact .inl rfl
  · cases rest with
    | nil => cases hd
    | cons n8 r => cases hd; exact .inr ⟨n8, rfl⟩

theorem encode_eq_cons {s : State} {a : Word} {i : Instr} (hw : i.wf = true)
    (hb : s.bytesFrom a (encode i).length = encode i) : ∃ rest, encode i = s.byteAt a :: rest := by
  have hd := decode_encode hw
  cases he : encode i with
  | nil => rw [he] at hd; cases hd
  | cons op rest =>
    rw [he] at hb
    injection hb with hop _
    exact ⟨rest, by rw [hop]⟩

/-- The fetch finds the instruction whose bytes stand at pc, where its opcode is not one that the base core lacks. -/
theorem fetchInstr_of_bytes {s : State} {i : Instr} (hw : i.wf = true)
    (hr : s.bytesReady s.pc (encode i).length = true) (hb : s.bytesFrom s.pc (encode i).length = encode i)
    (hn : (needsExtension (s.byteAt s.pc) && !s.interruptExt) = false) :
    fetchInstr s = .ok { instr := i, next := s.pc + BitVec.ofNat 16 (encode i).length,
                         after := s.afterBytes s.pc (encode i).length } := by
  obtain ⟨ha, hrest⟩ := fetchRest_of_bytes (decode_encode hw) hr hb
  unfold fetchInstr
  rw [readByte_ok ha, ← hrest]
  simp [bind, Except.bind, hn]

/-- In the base core the opcodes of `HALT` and `STOP` are fatal at pc (R94, R305). -/
theorem fetchInstr_needsExtension {s : State} (hx : s.interruptExt = false) (ha : s.accessible s.pc = true)
    (hn : needsExtension (s.byteAt s.pc) = true) :
    fetchInstr s = .error (.unimplementedInstruction (s.byteAt s.pc) s.pc) := by
  unfold fetchInstr
  rw [readByte_ok ha]
  simp [bind, Except.bind, hn, hx]

theorem step_base {s : State} (hx : s.interruptExt = false) : step s = runInstruction s := by
  unfold step oneStep
  rw [hx]
  rfl

theorem enterHalt_base {s : State} {op : Byte} {len : Word} (hx : s.interruptExt = false) :
    enterHalt op len s = .fault (.unimplementedInstruction op (s.pc - len)) := by
  unfold enterHalt
  rw [hx]
  rfl

/-- Their meaning answers the same, with the address that their length before pc has (R281, R282). -/
theorem exec_needsExtension {s : State} {i : Instr} {op : Byte} {rest : List Byte} (hx : s.interruptExt = false)
    (hw : i.wf = true) (he : encode i = op :: rest) (hn : needsExtension op = true) :
    exec i s = .fault (.unimplementedInstruction op (s.pc - BitVec.ofNat 16 (encode i).length)) := by
  rcases halt_or_stop_of_needsExtension hw he hn with rfl | ⟨n8, rfl⟩
  all_goals
    injection he with hop _
    rw [← hop]
    exact enterHalt_base hx

@[simp] theorem afterBytes_interruptExt (s : State) (a : Word) (n : Nat) :
    (s.afterBytes a n).interruptExt = s.interruptExt := by
  induction n generalizing s a with
  | zero => rfl
  | succ n ih => exact (ih (s.noteRead a) (a + 1#16)).trans (noteRead_interruptExt s a)

/-- Settles O48: the fetch finds the instruction; `HALT` and `STOP` end by the same fatal condition in the fetch and in
their meaning, since the address of the opcode is pc minus their length. -/
theorem stepRunsDecodedInstruction : Obligations.StepRunsDecodedInstruction := by
  unfold Obligations.StepRunsDecodedInstruction
  intro s i hw hx hr hb
  rw [step_base hx, runInstruction]
  cases hn : needsExtension (s.byteAt s.pc) with
  | false =>
    rw [fetchInstr_of_bytes hw hr hb (by rw [hn]; rfl)]
    rfl
  | true =>
    have ha := (fetchRest_of_bytes (decode_encode hw) hr hb).1
    obtain ⟨rest, he⟩ := encode_eq_cons hw hb
    rw [fetchInstr_needsExtension hx ha hn]
    have hstop := exec_needsExtension
      (s := (s.afterBytes s.pc (encode i).length).jump (s.pc + BitVec.ofNat 16 (encode i).length))
      (by simpa using hx) hw he hn
    rw [jump_pc, BitVec.add_sub_cancel] at hstop
    exact hstop.symm

end Sys2Proof.Machine
end

section
/-! PROOF of O7 to O14. The four bus primitives by what an address names, the map's translation of the echo, and the
frame of one store (spec 20_memory.md R50 to R73). -/

namespace Sys2Proof.Machine

/-! ### The bus primitives by the target of the address -/

theorem readByte_cell {s : State} {a : Word} {p : Loc} {perm : Permission} (h : s.target a = .cell p perm) :
    s.readByte a = .ok (s.mem.read p, s) := by
  unfold State.readByte; rw [h]

theorem writeByte_cell {s : State} {a : Word} {p : Loc} (v : Byte) (h : s.target a = .cell p .writable) :
    s.writeByte a v = .ok { s with mem := s.mem.write p v } := by
  unfold State.writeByte; rw [h]

theorem readByte_unmapped {s : State} {a : Word} (h : s.target a = .unmapped) :
    s.readByte a = .ok (Config.unmappedReadValue, s) := by
  unfold State.readByte; rw [h]

theorem writeByte_unmapped {s : State} {a : Word} (v : Byte) (h : s.target a = .unmapped) :
    s.writeByte a v = .ok s := by
  unfold State.writeByte; rw [h]

theorem readByte_device {s : State} {a : Word} {g : Region} {off : Nat} (h : s.target a = .device g off) :
    s.readByte a = .ok ((Config.extRead s.extCalls g off).getD Config.unmappedReadValue,
      { s with extCalls := .read g off :: s.extCalls }) := by
  unfold State.readByte; rw [h]

theorem writeByte_device {s : State} {a : Word} {g : Region} {off : Nat} (v : Byte) (h : s.target a = .device g off) :
    s.writeByte a v = .ok { s with extCalls := .write g off v :: s.extCalls } := by
  unfold State.writeByte; rw [h]

/-! ### The map -/

/-- The translation of R54 leaves the echo: it is made once. -/
theorem resolve_echo {a : Word} (h1 : 0xE000 ≤ a.toNat) (h2 : a.toNat ≤ 0xFDFF) :
    resolve a = resolve (a - 0x2000#16) := by
  have ht := echo_target a ⟨h1, h2⟩
  have hne : regionOf (a - 0x2000#16) ≠ .echo := by rw [Ne, echo_iff]; omega
  unfold resolve
  rw [if_pos ((echo_iff a).mpr ⟨h1, h2⟩), if_neg hne]

theorem resolve_of_not_echo {a : Word} (h : a.toNat < 0xE000 ∨ 0xFDFF < a.toNat) : resolve a = resolveRow a := by
  unfold resolve
  rw [if_neg]
  rw [echo_iff]
  omega

/-- Outside the echo the triple's region is the row that the address lies in. -/
theorem region_eq_of_bounds {a : Word} {g : Region} (hg : g ≠ .echo) (h1 : regionFirst g ≤ a.toNat)
    (h2 : a.toNat ≤ regionLast g) : (resolve a).region = g := by
  have hrow := (bounds_iff a g).mp ⟨h1, h2⟩
  unfold resolve
  rw [if_neg (hrow ▸ hg)]
  exact hrow.symm

theorem region_echo {a : Word} (h1 : 0xE000 ≤ a.toNat) (h2 : a.toNat ≤ 0xFDFF) :
    (resolve a).region = .wram0 ∨ (resolve a).region = .wramX := by
  have ht := echo_target a ⟨h1, h2⟩
  rw [resolve_echo h1 h2]
  by_cases h : a.toNat ≤ 0xEFFF
  · exact .inl (region_eq_of_bounds (by decide) (by simp only [regionFirst]; omega) (by simp only [regionLast]; omega))
  · exact .inr (region_eq_of_bounds (by decide) (by simp only [regionFirst]; omega) (by simp only [regionLast]; omega))

/-- Settles O7: the rows as listed, and `bounds_iff`. -/
theorem everyAddressInOneRegion : Obligations.EveryAddressInOneRegion := by
  unfold Obligations.EveryAddressInOneRegion
  refine ⟨rfl, fun g => ?_, bounds_iff⟩
  cases g <;> decide

/-- Settles O8: an echo address is translated into WRAM0 or WRAMX, any other keeps its row. -/
theorem resolveGivesTriple : Obligations.ResolveGivesTriple := by
  unfold Obligations.ResolveGivesTriple
  refine fun a => ⟨fun h => ?_, fun h1 h2 => ⟨resolve_echo h1 h2, region_echo h1 h2⟩, fun h => ?_⟩
  · by_cases he : 0xE000 ≤ a.toNat ∧ a.toNat ≤ 0xFDFF
    · rcases region_echo he.1 he.2 with hw | hw <;> rw [h] at hw <;> cases hw
    · rw [resolve_of_not_echo (by omega)] at h
      exact he ((echo_iff a).mp h)
  · rw [resolve_of_not_echo h]
    exact ⟨(regionOf_bounds a).1, (regionOf_bounds a).2, rfl, rfl⟩

/-- Settles O9: each clause is the row of the map that holds the address. -/
theorem readReturnsStorageByte : Obligations.ReadReturnsStorageByte := by
  unfold Obligations.ReadReturnsStorageByte
  intro s a
  exact ⟨fun h => readByte_cell (target_row s a .rom0 (by decide) (Nat.zero_le _) h),
    fun h1 h2 => readByte_cell (target_row s a .romX (by decide) h1 h2),
    fun h1 h2 => readByte_cell (target_row s a .tile0 (by decide) h1 h2),
    fun h1 h2 => readByte_cell (target_row s a .tile1 (by decide) h1 h2),
    fun h1 h2 => readByte_cell (target_row s a .map0 (by decide) h1 h2),
    fun h1 h2 => readByte_cell (target_row s a .map1 (by decide) h1 h2),
    fun h1 h2 => readByte_cell (target_row s a .eram (by decide) h1 h2),
    fun h1 h2 => readByte_cell (target_row s a .wram0 (by decide) h1 h2),
    fun h1 h2 => readByte_cell (target_row s a .wramX (by decide) h1 h2),
    fun h1 h2 => readByte_cell (target_row s a .oam (by decide) h1 h2)⟩

/-! ### Which accesses are fatal -/

theorem not_accessible_iff_target (s : State) (a : Word) : s.accessible a = false ↔ ∃ g, s.target a = .unwired g := by
  unfold State.accessible
  cases s.target a <;> simp

theorem handlerTarget_unwired_iff (hd : Handler) (g k : Region) (b : Buffer) (off : Nat) :
    handlerTarget hd g b off = .unwired k ↔ hd = .absent ∧ g = k := by
  cases hd with
  | ifOnly => by_cases h : off = 0x0F <;> simp [handlerTarget, h]
  | _ => simp [handlerTarget]

/-- An access is fatal exactly where the region of the triple has no handler (R60). -/
theorem not_accessible_iff (s : State) (a : Word) :
    s.accessible a = false ↔ s.handler (resolve a).region = some .absent := by
  rw [not_accessible_iff_target]
  unfold State.target targetOf State.handler
  cases (resolve a).region with
  | unusable | io | hram | ie => simp [handlerTarget_unwired_iff]
  | _ => simp

theorem accessible_of_lt {s : State} {a : Word} (h : a.toNat < 0xFEA0) : s.accessible a = true := by
  rw [← Bool.not_eq_false, not_accessible_iff_target]
  rintro ⟨g, hg⟩
  rcases target_cases s a with ⟨_, q, -⟩ | ⟨_, q, -⟩ | ⟨q, -⟩ | ⟨_, _, q, -⟩ | ⟨_, -, -, hle⟩
  case inr.inr.inr.inr => omega
  all_goals rw [hg] at q; cases q

theorem wordReady_of_lt {s : State} {a : Word} (h : a.toNat < 0xFE9F) : s.wordReady a = true := by
  unfold State.wordReady
  rw [accessible_of_lt (by omega), accessible_of_lt (by bv_omega), Bool.and_true]

/-- The unwired regions are the addresses from 0xFEA0 on (R60). -/
theorem region_unwired_iff (a : Word) : (resolve a).region ∈ [Region.unusable, .io, .hram, .ie] ↔ 0xFEA0 ≤ a.toNat := by
  by_cases he : 0xE000 ≤ a.toNat ∧ a.toNat ≤ 0xFDFF
  · rcases region_echo he.1 he.2 with hw | hw <;> rw [hw] <;> simp <;> omega
  · rw [resolve_of_not_echo (by omega)]
    obtain ⟨h1, h2⟩ := regionOf_bounds a
    show regionOf a ∈ _ ↔ _
    cases hr : regionOf a
    all_goals
      rw [hr] at h1 h2
      simp [regionFirst, regionLast] at h1 h2 ⊢
      omega

theorem target_of_readOnly (s : State) {a : Word} (h : (resolve a).permission = .readOnly) :
    ∃ off, s.target a = .cell ⟨.rom, off⟩ .readOnly := by
  rcases target_cases s a with ⟨off, q, -⟩ | ⟨_, -, -, -, q, -⟩ | ⟨-, q, -⟩ | ⟨_, _, -, q, -⟩ | ⟨_, -, q, -⟩
  case inl => exact ⟨off, q⟩
  all_goals rw [h] at q; cases q

/-- Settles O10: a read-only address lies in the image, so it can be reached, and a store there changes nothing. -/
theorem readOnlyWriteDiscarded : Obligations.ReadOnlyWriteDiscarded := by
  unfold Obligations.ReadOnlyWriteDiscarded
  intro s a v h
  obtain ⟨off, hrom⟩ := target_of_readOnly s h
  have ha : s.accessible a = true := by unfold State.accessible; rw [hrom]
  rw [writeByte_ok v ha, store_readOnly v h]

/-- Settles O13: the two primitives fail where the handler is absent, and there alone. -/
theorem unwiredAccessIsFatal : Obligations.UnwiredAccessIsFatal := by
  unfold Obligations.UnwiredAccessIsFatal
  refine fun s a v => ⟨fun h => ?_, fun h => ?_, region_unwired_iff a⟩
  · have ha := (not_accessible_iff s a).mpr h
    exact ⟨readByte_error ha, writeByte_error v ha⟩
  · rw [Ne, ← not_accessible_iff, Bool.not_eq_false] at h
    exact ⟨⟨_, readByte_ok h⟩, ⟨_, writeByte_ok v h⟩⟩

/-! ### The handlers -/

/-- In a region that has a handler an address names what that handler makes of it (R60 to R62). -/
theorem target_of_handler {s : State} {a : Word} {hd : Handler} (h : s.handler (resolve a).region = some hd) :
    s.target a = handlerTarget hd (resolve a).region (handlerBuffer (resolve a).region) (resolve a).offset := by
  unfold State.target targetOf
  cases hr : (resolve a).region <;> rw [hr] at h <;> cases h <;> rfl

/-- Settles O14: each kind of handler by the target it makes of the address. -/
theorem handlerAnswers : Obligations.HandlerAnswers := by
  unfold Obligations.HandlerAnswers
  rintro s a v g rfl
  refine ⟨fun h => ?_, fun h ho => ?_, fun h ho => ?_, fun h => ?_⟩ <;> have ht := target_of_handler h
  · exact ⟨readByte_cell ht, writeByte_cell v ht⟩
  · rw [handlerTarget, if_pos ho, ho] at ht
    exact ⟨readByte_cell ht, writeByte_cell v ht⟩
  · rw [handlerTarget, if_neg ho] at ht
    exact ⟨readByte_unmapped ht, writeByte_unmapped v ht⟩
  · exact ⟨readByte_device ht, writeByte_device v ht⟩

/-! ### What one store leaves -/

/-- Below the unwired regions every address above the image names a writable stored byte. -/
theorem target_writable (s : State) {a : Word} (h1 : 0x8000 ≤ a.toNat) (h2 : a.toNat < 0xFEA0) :
    ∃ p, s.target a = .cell p .writable := by
  rcases target_cases s a with ⟨_, -, -, hlt⟩ | ⟨p, q, -⟩ | ⟨-, -, hle⟩ | ⟨_, _, -, -, hle⟩ | ⟨_, -, -, hle⟩
  case inr.inl => exact ⟨p, q⟩
  all_goals omega

theorem byteAt_cell {s : State} {a : Word} {p : Loc} {perm : Permission} (h : s.target a = .cell p perm) :
    s.byteAt a = s.mem.read p := by
  unfold State.byteAt; rw [h]

theorem store_cell {s : State} {a : Word} {p : Loc} (v : Byte) (h : s.target a = .cell p .writable) :
    s.store a v = { s with mem := s.mem.write p v } := by
  unfold State.store; rw [h]

theorem read_store_same {s : State} {a : Word} {p : Loc} {n : Nat} (hw : s.mem.wf n = true) (v : Byte)
    (h : s.target a = .cell p .writable) : (s.store a v).mem.read p = v := by
  rw [store_cell v h, read_write hw, if_pos rfl]

/-- A stored byte is named with one permission, so a target that differs from it names another byte. -/
theorem target_ne_writable {s : State} {a b : Word} {p : Loc} {perm : Permission} (hb : s.target b = .cell p perm)
    (h : s.target a ≠ s.target b) : s.target a ≠ .cell p .writable := by
  intro ha
  have hperm : perm = .writable := (perm_of_cell hb).trans (perm_of_cell ha).symm
  exact h (by rw [ha, hb, hperm])

/-- An address reads as before where the stored byte that it names, or the record of calls for a device, is kept. -/
theorem byteAt_frame {s t : State} {a : Word} (ht : t.target a = s.target a)
    (hm : ∀ p perm, s.target a = .cell p perm → t.mem.read p = s.mem.read p)
    (hx : ∀ g off, s.target a = .device g off → t.extCalls = s.extCalls) : t.byteAt a = s.byteAt a := by
  unfold State.byteAt
  rw [ht]
  cases h : s.target a with
  | cell p perm => exact hm p perm h
  | device g off => simp only [hx g off h]
  | unmapped | unwired g => rfl

/-- Settles O11: the address names one writable stored byte, which the store replaces. -/
theorem writeThenRead : Obligations.WriteThenRead := by
  unfold Obligations.WriteThenRead
  intro s a v hw h1 h2
  obtain ⟨p, hp⟩ := target_writable s h1 (by omega)
  have hread := readByte_cell ((target_store s a v a).trans hp)
  rw [read_store_same hw v hp] at hread
  refine ⟨s.store a v, writeByte_ok v (accessible_of_lt (by omega)), hread, by rw [store_cell v hp], fun b hb => ?_⟩
  refine byteAt_frame (target_store s a v b) (fun q perm hq => ?_) (fun g off _ => by rw [store_cell v hp])
  exact read_store hw a v q (target_ne_writable hq hb.symm)

/-! ### Words -/

theorem readWord_cells {s : State} {a : Word} {p q : Loc} {perm perm' : Permission} (hp : s.target a = .cell p perm)
    (hq : s.target (a + 1#16) = .cell q perm') :
    s.readWord a = .ok (joinBytes (s.mem.read q) (s.mem.read p), s) := by
  unfold State.readWord
  rw [readByte_cell hp]
  show (s.readByte (a + 1#16) >>= _) = _
  rw [readByte_cell hq]
  rfl

/-- Every region of stored bytes and every bank begins at an even address and an even offset, so a stored byte has the
parity of each address that names it. -/
theorem off_parity {s : State} {a : Word} {p : Loc} {perm : Permission} (hlt : a.toNat < 0xFEA0)
    (h : s.target a = .cell p perm) : p.off % 2 = a.toNat % 2 := by
  have row (b : Word) (hb : b.toNat < 0xFEA0) (hne : regionOf b ≠ .echo)
      (hcell : targetOf s (resolveRow b) = .cell p perm) : p.off % 2 = b.toNat % 2 := by
    obtain ⟨h1, h2⟩ := regionOf_bounds b
    unfold resolveRow targetOf at hcell
    cases hr : regionOf b <;> rw [hr] at h1 h2 hcell <;> simp only [regionFirst, regionLast] at h1 h2 hcell
    case echo => exact absurd hr hne
    case unusable | io | hram | ie => omega
    all_goals
      cases hcell
      simp only [Config.romBankSize, Config.eramSize, Config.wramBankSize]
      omega
  by_cases he : 0xE000 ≤ a.toNat ∧ a.toNat ≤ 0xFDFF
  · have ht := echo_target a he
    rw [State.target, resolve_echo he.1 he.2, resolve_of_not_echo (by omega)] at h
    rw [row _ (by omega) (by rw [Ne, echo_iff]; omega) h]
    omega
  · rw [State.target, resolve_of_not_echo (by omega)] at h
    exact row a hlt (by rw [Ne, echo_iff]; exact he) h

/-- R73 (a): reads and writes through the echo are those of its target. -/
theorem echo_equivalence (s : State) {a : Word} (h1 : 0xE000 ≤ a.toNat) (h2 : a.toNat ≤ 0xFDFF) :
    s.readByte a = s.readByte (a - 0x2000#16) ∧ ∀ v : Byte, s.writeByte a v = s.writeByte (a - 0x2000#16) v := by
  have htarget : s.target a = s.target (a - 0x2000#16) := congrArg (targetOf s) (resolve_echo h1 h2)
  obtain ⟨p, hp⟩ := target_writable s (a := a) (by omega) (by omega)
  have hq := htarget.symm.trans hp
  exact ⟨by rw [readByte_cell hp, readByte_cell hq], fun v => by rw [writeByte_cell v hp, writeByte_cell v hq]⟩

/-- R73 (b): the two bytes of a word never share a place, so the second store keeps the first byte. -/
theorem word_round_trip {s : State} {a : Word} (w : Word) (hw : s.mem.wf s.romBanks = true) (h1 : 0x8000 ≤ a.toNat)
    (h2 : a.toNat < 0xFE9F) : ∃ t : State, s.writeWord a w = .ok t ∧ t.readWord a = .ok (w, t) := by
  have hsucc : (a + 1#16).toNat = a.toNat + 1 := by bv_omega
  obtain ⟨p, hp⟩ := target_writable s h1 (by omega)
  obtain ⟨q, hq⟩ := target_writable s (a := a + 1#16) (by omega) (by omega)
  have hne : p ≠ q := by
    rintro rfl
    have hpar := (off_parity (by omega) hp).symm.trans (off_parity (by omega) hq)
    omega
  refine ⟨s.storeWord a w, by rw [writeWord_eq, if_pos (wordReady_of_lt h2)], ?_⟩
  rw [State.storeWord, readWord_cells (p := p) (q := q) (by simpa using hp) (by simpa using hq),
    read_store_same (wf_store hw a _) _ ((target_store s a _ _).trans hq),
    read_store (wf_store hw a _) _ _ p (by rw [target_store, hq]; simpa using hne.symm),
    read_store_same hw _ hp, joinBytes_hi_lo]

/-- R73 (c): of a word written at 0x7FFF the image discards the low byte. -/
theorem boundary_write {s : State} (hw : s.mem.wf s.romBanks = true) :
    ∃ t : State, s.writeWord 0x7FFF#16 0xBEEF#16 = .ok t ∧ t.readByte 0x7FFF#16 = .ok (s.byteAt 0x7FFF#16, t) ∧
      t.readByte 0x8000#16 = .ok (0xBE#8, t) ∧
      t.readWord 0x7FFF#16 = .ok (joinBytes 0xBE#8 (s.byteAt 0x7FFF#16), t) := by
  obtain ⟨off, hp⟩ := target_of_readOnly s (a := 0x7FFF#16) (by decide)
  obtain ⟨q, hq⟩ := target_writable s (a := 0x8000#16) (by decide) (by decide)
  have hstore : s.storeWord 0x7FFF#16 0xBEEF#16 = s.store 0x8000#16 0xBE#8 := by
    rw [State.storeWord, store_readOnly (a := 0x7FFF#16) _ (by decide)]
    rfl
  have hwrite : s.writeWord 0x7FFF#16 0xBEEF#16 = .ok (s.store 0x8000#16 0xBE#8) := by
    rw [writeWord_eq, if_pos (wordReady_of_lt (by decide)), hstore]
  have hp' := (target_store s 0x8000#16 0xBE#8 0x7FFF#16).trans hp
  have hq' := (target_store s 0x8000#16 0xBE#8 0x8000#16).trans hq
  have hword := readWord_cells hp' hq'
  have hlow := readByte_cell hp'
  have hhigh := readByte_cell hq'
  rw [read_store_rom, ← byteAt_cell hp] at hword hlow
  rw [read_store_same hw _ hq] at hword hhigh
  exact ⟨_, hwrite, hlow, hhigh, hword⟩

/-- Settles O12: the three laws of R73. -/
theorem busLaws : Obligations.BusLaws :=
  ⟨fun s _ h1 h2 => echo_equivalence s h1 h2, fun _ _ w hw h1 h2 => word_round_trip w hw h1 h2,
    fun _ hw => boundary_write hw⟩

end Sys2Proof.Machine
end

section
/-! PROOF of O45. Memory changes by the stores of a form alone: one induction over its stores, from which each clause of
the frame follows (spec 20_memory.md R59, R65, R74). -/

namespace Sys2Proof.Machine

/-- What a store to each address of a form keeps, the form keeps. The stores start from states that name the same bytes
as `s`: reads before them change the record of calls alone. -/
theorem nextOf_mem_induction {s : State} {f : Form} {P : Memory → Prop} (hs : P s.mem)
    (hstore : ∀ (u : State) (v : Byte), (∀ a, u.target a = s.target a) → P u.mem →
      ∀ b ∈ f.stores s, P (u.store b v).mem) : P (nextOf s f).mem := by
  have one (a : Word) (v : Byte) (ha : a ∈ f.stores s) : P (s.store a v).mem := hstore s v (fun _ => rfl) hs a ha
  have update (a : Word) (v : Byte) (ha : a ∈ f.stores s) : P ((s.noteRead a).store a v).mem :=
    hstore (s.noteRead a) v (target_noteRead s a) (by rwa [noteRead_mem]) a ha
  have word (a w : Word) (ha : a ∈ f.stores s) (ha' : a + 1#16 ∈ f.stores s) : P (s.storeWord a w).mem :=
    hstore (s.store a (loByte w)) (hiByte w) (target_store s a _) (one a _ ha) _ ha'
  cases f with
  | ldMemReg | ldMemImm | storeA | storeAbs | storeHighImm | storeHighC | storeAStep =>
    simp [nextOf, one, Form.stores, Form.accesses]
  | incMem | decMem | rotMem | resMem | setMem => simp [nextOf, update, Form.stores, Form.accesses]
  | ldMemSp | push | call | rst => simp [nextOf, word, Form.stores, Form.accesses, pushAccesses]
  | callCond cc => cases hc : s.cond cc <;> simp [nextOf, hc, hs, word, Form.stores, Form.accesses, pushAccesses]
  | retCond cc | jpCond cc | jrCond cc => cases hc : s.cond cc <;> simpa [nextOf, hc] using hs
  | aluReg | aluMem | aluImm => simpa [nextOf, applyAlu] using hs
  | _ => simpa [nextOf] using hs

/-- A stored byte that no store of the form names keeps its value. -/
theorem nextOf_mem_read {s : State} {f : Form} {n : Nat} {p : Loc} (hw : s.mem.wf n = true)
    (hp : ∀ b ∈ f.stores s, s.target b ≠ .cell p .writable) : (nextOf s f).mem.read p = s.mem.read p :=
  And.right <| nextOf_mem_induction (P := fun m => m.wf n = true ∧ m.read p = s.mem.read p) ⟨hw, rfl⟩
    fun u v hu hm b hb => ⟨wf_store hm.1 b v, (read_store hm.1 b v p (by rw [hu]; exact hp b hb)).trans hm.2⟩

theorem nextOf_mem_of_readOnly {s : State} {f : Form} (h : ∀ b ∈ f.stores s, (resolve b).permission = .readOnly) :
    (nextOf s f).mem = s.mem :=
  nextOf_mem_induction (P := (· = s.mem)) rfl fun u v _ hm b hb => by rw [store_readOnly v (h b hb), hm]

/-- Settles O45: a completed instruction has left `nextOf` of its form, and keeps the wiring that addresses go through. -/
theorem memoryFrame : Obligations.MemoryFrame := by
  unfold Obligations.MemoryFrame
  intro i s t hw h
  obtain ⟨-, hwram, hrom, heram, -, hhandlers, -, -⟩ := (fixedPart_eq_iff s t).mp (fixedPart_exec h)
  have htarget : ∀ a, t.target a = s.target a := target_congr ⟨hwram, hrom, heram, hhandlers⟩
  have hnext := exec_next h
  refine ⟨fun a hd ha => ?_, fun p hp => ?_, fun hro => ?_⟩
  · refine byteAt_frame (htarget a) (fun p perm hp => ?_) (fun g off hg => absurd hg (hd g off))
    rw [hnext]
    exact nextOf_mem_read hw fun b hb => target_ne_writable hp (ha b hb)
  · rw [hnext]
    exact nextOf_mem_read hw fun b hb => hp b hb .writable
  · rw [hnext]
    exact nextOf_mem_of_readOnly hro

end Sys2Proof.Machine
end

section
/-! PROOF of O47. Which instructions stop whatever memory holds, and what the others cost (spec 20_memory.md R74;
60_exceptions.md R307, R355). -/

namespace Sys2Proof.Machine

/-- The forms that stop always are rows of their own, never the effect of an extended opcode. -/
theorem stopsAlways_effectForm {i : Instr} {s : State} (hill : ∀ k, formOf i ≠ .illegal k)
    (hext : s.interruptExt = true ∨ formOf i ≠ .halt ∧ ∀ n8, formOf i ≠ .stop n8) :
    stopsAlways s (effectForm i) = false := by
  cases hf : effectForm i with
  | illegal k => exact absurd (formOf_of_effectForm hf rfl) (hill k)
  | halt =>
    rcases hext with hx | ⟨hh, -⟩
    · simp [stopsAlways, hx]
    · exact absurd (formOf_of_effectForm hf rfl) hh
  | stop n8 =>
    rcases hext with hx | ⟨-, hs⟩
    · simp [stopsAlways, hx]
    · exact absurd (formOf_of_effectForm hf rfl) (hs n8)
  | _ => rfl

/-- The least and the greatest cost of the instruction rules (R355). -/
theorem nextOf_cycles {s : State} {f : Form} (hp : ∀ e, f ≠ .prefixCb e) (hill : ∀ k, f ≠ .illegal k) :
    1 ≤ (nextOf s f).cycles ∧ (nextOf s f).cycles ≤ 6 := by
  cases f with
  | prefixCb e => exact absurd rfl (hp e)
  | illegal k => exact absurd rfl (hill k)
  | callCond cc | retCond cc | jpCond cc | jrCond cc => cases hc : s.cond cc <;> simp [nextOf, hc]
  | _ => simp [nextOf]

/-- Settles O47: an instruction that does not stop always answers by its accesses alone. -/
theorem completesOrFirstFault : Obligations.CompletesOrFirstFault := by
  unfold Obligations.CompletesOrFirstFault
  intro i s hill hext
  have hexec : exec i s = answer s ((effectForm i).accesses s) (nextOf s (effectForm i)) :=
    (exec_eq_effect i s).trans (run_eq (effectForm_not_prefix i) (stopsAlways_effectForm hill hext))
  unfold answer at hexec
  constructor
  · intro hall
    have hnone : ((effectForm i).accesses s).find? (fun x => !s.accessible x.1) = none := by
      simpa using hall
    rw [hnone] at hexec
    exact ⟨_, hexec, nextOf_cycles (effectForm_not_prefix i) fun k hk => hill k (formOf_of_effectForm hk rfl)⟩
  · intro x hx
    rw [hx] at hexec
    exact hexec

end Sys2Proof.Machine
end

section
/-! PROOF of O1 to O6. The decoder and the encoder by the entries of the two tables: what an entry answers, and what the
tables hold at each opcode byte, said once (spec 30_encoding.md R90 to R109). -/

namespace Sys2Proof

open Sys2Proof.Machine

/-! ### Entries and operand bytes -/

/-- The instruction that an entry makes of the operand byte `v` and the operand word `w`. -/
def Entry.instr (v : Byte) (w : Word) : Entry → Instr
  | .op i => i
  | .n8 make | .e8 make => make v
  | .n16 make => make w
  | .cb => extendedInstr v

/-- The bytes that follow the opcode of an entry. -/
def Entry.operandBytes (v : Byte) (w : Word) : Entry → List Byte
  | .op _ => []
  | .n8 _ | .e8 _ | .cb => [v]
  | .n16 _ => [loByte w, hiByte w]

/-- The length of the instructions of an entry (R91). -/
def Entry.length : Entry → Nat
  | .op _ => 1
  | .n8 _ | .e8 _ | .cb => 2
  | .n16 _ => 3

theorem Entry.length_operandBytes (e : Entry) (v : Byte) (w : Word) : (e.operandBytes v w).length + 1 = e.length := by
  cases e <;> rfl

/-- The decoder on an opcode and operand bytes, whatever follows. -/
theorem decode_entry (op v : Byte) (w : Word) (rest : List Byte) :
    decode (op :: (primaryEntry op).operandBytes v w ++ rest) = .ok ((primaryEntry op).instr v w, rest) := by
  simp only [List.cons_append, decode]
  cases primaryEntry op <;> simp [Entry.operandBytes, Entry.instr]

/-- Any three bytes are the bytes of an entry and what is left of them. -/
theorem decode_three (op b1 b2 : Byte) (rest : List Byte) :
    decode (op :: b1 :: b2 :: rest) =
      .ok ((primaryEntry op).instr b1 (joinBytes b2 b1), (op :: b1 :: b2 :: rest).drop (primaryEntry op).length) := by
  simp only [decode]
  cases primaryEntry op <;> rfl

/-- Where the decoder answers, the bytes are those of an entry. -/
theorem decode_ok {bs rest : List Byte} {i : Instr} (h : decode bs = .ok (i, rest)) :
    ∃ (op v : Byte) (w : Word),
      i = (primaryEntry op).instr v w ∧ bs = op :: (primaryEntry op).operandBytes v w ++ rest := by
  cases bs with
  | nil => cases h
  | cons op tail =>
    refine ⟨op, ?_⟩
    simp only [decode] at h
    cases he : primaryEntry op <;> simp only [he] at h
    case op j => cases h; exact ⟨0#8, 0#16, rfl, rfl⟩
    case n16 make =>
      rcases tail with _ | ⟨lo, _ | ⟨hi, tail⟩⟩ <;> cases h
      exact ⟨0#8, joinBytes hi lo, rfl, by simp [Entry.operandBytes]⟩
    all_goals
      rcases tail with _ | ⟨v, tail⟩ <;> cases h
      exact ⟨v, 0#16, rfl, rfl⟩

/-- The decoder does not look at the bytes after the instruction. -/
theorem decode_append {bs rest : List Byte} {i : Instr} (h : decode bs = .ok (i, rest)) (more : List Byte) :
    decode (bs ++ more) = .ok (i, rest ++ more) := by
  obtain ⟨op, v, w, rfl, rfl⟩ := decode_ok h
  rw [List.append_assoc]
  exact decode_entry op v w (rest ++ more)

/-! ### The tables, byte by byte -/

theorem encode_extendedInstr (ext : Byte) : encode (extendedInstr ext) = [0xCB#8, ext] := by revert ext; decide

theorem formOf_extendedInstr (ext : Byte) : formOf (extendedInstr ext) = extendedForm ext := by revert ext; decide

/-- The summary of R93 is the format of each entry. -/
theorem length_primaryEntry (op : Byte) : (primaryEntry op).length = lengthOf op := by revert op; decide

/-- A fact about every byte, from its 256 values. -/
theorem forall_byte {P : Byte → Prop} (h : ∀ n : Fin 256, P (BitVec.ofFin n)) (b : Byte) : P b := h b.toFin

/-- The primary table lists each instruction at its own opcode, the extended ones at 0xCB. -/
theorem encode_primaryEntry (op v : Byte) (w : Word) :
    encode ((primaryEntry op).instr v w) = op :: (primaryEntry op).operandBytes v w := by
  revert op
  apply forall_byte
  intro n
  fin_cases n
  -- the goal of opcode 0xCB
  on_goal 204 => exact encode_extendedInstr v
  all_goals rfl

/-- Each entry but that of 0xCB is of the form that the fields of its opcode select. -/
theorem formOf_primaryEntry {op : Byte} (h : op ≠ 0xCB#8) (v : Byte) (w : Word) :
    formOf ((primaryEntry op).instr v w) = primaryForm op v w := by
  revert op
  apply forall_byte
  intro n
  fin_cases n
  -- the goal of opcode 0xCB
  on_goal 204 => exact fun h => absurd rfl h
  all_goals exact fun _ => rfl

/-! ### No entry makes the row `prefixCb` -/

theorem wf_of_ne_prefixCb {i : Instr} (h : ∀ ext, i ≠ .prefixCb ext) : i.wf = true := by
  unfold Instr.wf
  split
  · exact absurd rfl (h _)
  · rfl

theorem ne_prefixCb_of_isExtended {f : Form} (h : f.isExtended = true) (ext : Byte) : f ≠ .prefixCb ext := by
  rintro rfl
  cases h

theorem extendedInstr_ne_prefixCb (e ext : Byte) : extendedInstr e ≠ .prefixCb ext := fun h =>
  ne_prefixCb_of_isExtended (isExtended_formOf_extendedInstr e) ext (congrArg formOf h)

/-- An entry that made `prefixCb` would stand at 0xCB, where the extended table answers. -/
theorem wf_primaryEntry (op v : Byte) (w : Word) : ((primaryEntry op).instr v w).wf = true := by
  refine wf_of_ne_prefixCb fun ext h => ?_
  have hb := encode_primaryEntry op v w
  rw [h] at hb
  injection hb with hop
  rw [← hop] at h
  exact extendedInstr_ne_prefixCb v ext h

/-! ### The statements -/

/-- Settles O1: a well-formed instruction decodes from its own bytes, and what follows does not matter. -/
theorem decodeInvertsEncode : Obligations.DecodeInvertsEncode := by
  unfold Obligations.DecodeInvertsEncode
  exact fun i rest hw => decode_append (decode_encode hw) rest

/-- Settles O2: bytes that decode are those of an entry, which the encoder gives back. -/
theorem encodeInvertsDecode : Obligations.EncodeInvertsDecode := by
  unfold Obligations.EncodeInvertsDecode
  intro bs rest i h
  obtain ⟨op, v, w, rfl, rfl⟩ := decode_ok h
  exact ⟨by rw [encode_primaryEntry], wf_primaryEntry op v w⟩

/-- Settles O3: the decoder consumes, and the encoder gives, the length of the entry. -/
theorem lengthByPrimaryOpcode : Obligations.LengthByPrimaryOpcode := by
  unfold Obligations.LengthByPrimaryOpcode
  intro op b1 b2 rest
  refine ⟨(primaryEntry op).instr b1 (joinBytes b2 b1), ?_, ?_⟩
  · rw [← length_primaryEntry]
    exact decode_three op b1 b2 rest
  · rw [encode_primaryEntry, List.length_cons, Entry.length_operandBytes, length_primaryEntry]

/-- Settles O4: the form of each entry of the primary table. -/
theorem primaryFieldsSelectForm : Obligations.PrimaryFieldsSelectForm := by
  unfold Obligations.PrimaryFieldsSelectForm
  exact fun op b1 b2 rest h => ⟨_, _, decode_three op b1 b2 rest, formOf_primaryEntry h b1 (joinBytes b2 b1)⟩

/-- Settles O5: the entry of 0xCB leaves the choice to the extended table, whose 256 forms are those of the fields. -/
theorem extendedFieldsSelectForm : Obligations.ExtendedFieldsSelectForm := by
  unfold Obligations.ExtendedFieldsSelectForm
  exact ⟨fun ext rest => ⟨decode_entry 0xCB#8 ext 0#16 rest, formOf_extendedInstr ext⟩, rfl⟩

/-- Settles O6: the bytes of each word in memory order, and the entry at its opcode. -/
theorem wordsDecode : Obligations.WordsDecode := by
  unfold Obligations.WordsDecode
  exact ⟨rfl, rfl, rfl, rfl, rfl, rfl, rfl, rfl, rfl, rfl, rfl, rfl, rfl⟩

end Sys2Proof
end

section
/-! PROOF of O42. The row `prefixCb` and the extended instruction have one effect; what that effect accesses and costs
(spec 30_encoding.md R104, R106; 47_misc.md R285). -/

namespace Sys2Proof.Machine

/-- An extended instruction is its own effect. -/
theorem effectForm_extendedInstr (ext : Byte) : effectForm (extendedInstr ext) = extendedForm ext := by
  unfold effectForm
  split
  · rename_i e h
    exact absurd h (ne_prefixCb_of_isExtended (isExtended_formOf_extendedInstr ext) e)
  · exact formOf_extendedInstr ext

theorem effectForm_prefixCb (ext : Byte) : effectForm (.prefixCb ext) = extendedForm ext := formOf_extendedInstr ext

theorem isExtended_extendedForm (ext : Byte) : (extendedForm ext).isExtended = true := by
  rw [← formOf_extendedInstr]
  exact isExtended_formOf_extendedInstr ext

/-- The operand field of an extended opcode names a register unless it is 6 (R95). -/
theorem fieldZ_of_placeOfCode {ext : Byte} : placeOfCode (fieldZ ext) = .mem → fieldZ ext = 6 := by revert ext; decide

theorem accesses_extended {s : State} {f : Form} (h : f.isExtended = true) : ∀ x ∈ f.accesses s, x.1 = s.hl := by
  cases f with
  | rotReg | rotMem | bitReg | bitMem | resReg | resMem | setReg | setMem => simp [Form.accesses]
  | _ => cases h

/-- An extended opcode makes accesses only where its operand field says `(HL)`. -/
theorem fieldZ_of_accesses {ext : Byte} {s : State} {x : Word × Access} (h : x ∈ (extendedForm ext).accesses s) :
    fieldZ ext = 6 := by
  cases hz : placeOfCode (fieldZ ext) with
  | mem => exact fieldZ_of_placeOfCode hz
  | reg r =>
    unfold extendedForm at h
    rw [hz] at h
    split at h <;> cases h

/-- Accesses that all can be reached complete. -/
theorem answer_of_accessible {s : State} {l : List (Word × Access)} (h : ∀ x ∈ l, s.accessible x.1 = true)
    (t : State) : answer s l t = .next t := by
  unfold answer
  rw [List.find?_eq_none.mpr (by simpa using h)]

/-- An extended instruction costs 2 to 4 M-cycles. -/
theorem nextOf_cycles_extended {s : State} {f : Form} (h : f.isExtended = true) :
    2 ≤ (nextOf s f).cycles ∧ (nextOf s f).cycles ≤ 4 := by
  cases f with
  | rotReg | rotMem | bitReg | bitMem | resReg | resMem | setReg | setMem => simp [nextOf]
  | _ => cases h

theorem stopsAlways_extended {s : State} {f : Form} (h : f.isExtended = true) : stopsAlways s f = false := by
  unfold stopsAlways
  split
  · cases h
  · cases h
  · cases h
  · rfl

/-- Settles O42: both run the extended form, whose accesses are at HL. -/
theorem prefixRunsExtended : Obligations.PrefixRunsExtended := by
  unfold Obligations.PrefixRunsExtended
  intro ext s
  have hexec : exec (.prefixCb ext) s = exec (extendedInstr ext) s := by
    rw [exec_eq_effect, exec_eq_effect, effectForm_prefixCb, effectForm_extendedInstr]
  refine ⟨(encode_extendedInstr ext).symm, hexec, fun hready => ?_⟩
  have hf := isExtended_extendedForm ext
  have hrun : exec (extendedInstr ext) s = .next (nextOf s (extendedForm ext)) := by
    rw [exec_eq_effect, effectForm_extendedInstr, run_eq (ne_prefixCb_of_isExtended hf) (stopsAlways_extended hf)]
    exact answer_of_accessible (fun x hx => by rw [accesses_extended hf x hx]; exact hready (fieldZ_of_accesses hx)) _
  exact ⟨_, hexec.trans hrun, hrun, nextOf_cycles_extended hf⟩

end Sys2Proof.Machine
end

section
/-! PROOF of O50. The fetch of the base core up to the byte that fails it (spec 30_encoding.md R94; 60_exceptions.md
R304, R305, R307). -/

namespace Sys2Proof.Machine

/-- A fetch that fails ends the step of the base core. -/
theorem step_fetch_error {s : State} {k : Fault} (hx : s.interruptExt = false) (h : fetchInstr s = .error k) :
    step s = .fault k := by
  rw [step_base hx, runInstruction, h]

theorem fetchInstr_not_accessible {s : State} (h : s.accessible s.pc = false) :
    fetchInstr s = .error (accessFault s.pc .read) := by
  unfold fetchInstr
  rw [readByte_error h]
  rfl

/-- Past the opcode the fetch is `fetchRest`, where the opcode does not need the extension. -/
theorem fetchInstr_eq_fetchRest {s : State} (ha : s.accessible s.pc = true)
    (hn : needsExtension (s.byteAt s.pc) = false) :
    fetchInstr s = fetchRest (s.noteRead s.pc) s.pc (s.byteAt s.pc) := by
  unfold fetchInstr
  rw [readByte_ok ha]
  simp [bind, Except.bind, hn]

/-- Every entry of two or three bytes reads the byte after the opcode first. -/
theorem fetchRest_second {s : State} {a : Word} {op : Byte} (hl : 2 ≤ lengthOf op)
    (h : s.accessible (a + 1#16) = false) : fetchRest s a op = .error (accessFault (a + 1#16) .read) := by
  rw [← length_primaryEntry] at hl
  unfold fetchRest
  cases he : primaryEntry op with
  | op i => rw [he] at hl; simp [Entry.length] at hl
  | n16 make => simp [readWord_eq, State.wordReady, State.wordFault, h, bind, Except.bind]
  | _ => simp [readByte_error h, bind, Except.bind]

/-- An entry of three bytes reads both bytes of its operand word, in ascending order. -/
theorem fetchRest_third {s : State} {a : Word} {op : Byte} (hl : lengthOf op = 3)
    (h1 : s.accessible (a + 1#16) = true) (h2 : s.accessible (a + 2#16) = false) :
    fetchRest s a op = .error (accessFault (a + 2#16) .read) := by
  have third : a + 1#16 + 1#16 = a + 2#16 := by bv_omega
  rw [← length_primaryEntry] at hl
  unfold fetchRest
  cases he : primaryEntry op with
  | n16 make => simp [readWord_eq, State.wordReady, State.wordFault, third, h1, h2, bind, Except.bind]
  | _ => rw [he] at hl; simp [Entry.length] at hl

/-- `HALT` has one byte, so `STOP` alone needs the extension among the longer ones. -/
theorem needsExtension_of_length {op : Byte} : op ≠ 0x10#8 → 2 ≤ lengthOf op → needsExtension op = false := by
  revert op; decide

/-! ### The illegal opcodes -/

theorem exists_illegalOp {op : Byte}
    (h : op ∈ [0xD3#8, 0xDB#8, 0xDD#8, 0xE3#8, 0xE4#8, 0xEB#8, 0xEC#8, 0xED#8, 0xF4#8, 0xFC#8, 0xFD#8]) :
    ∃ k : IllegalOp, k.byte = op := by
  obtain ⟨k, -, hk⟩ := List.mem_map.mp
    (show op ∈ List.map IllegalOp.byte [.opD3, .opDB, .opDD, .opE3, .opE4, .opEB, .opEC, .opED, .opF4, .opFC, .opFD]
      from h)
  exact ⟨k, hk⟩

/-- The row of an illegal opcode. -/
def IllegalOp.instr : IllegalOp → Instr
  | .opD3 => .illegalD3
  | .opDB => .illegalDB
  | .opDD => .illegalDD
  | .opE3 => .illegalE3
  | .opE4 => .illegalE4
  | .opEB => .illegalEB
  | .opEC => .illegalEC
  | .opED => .illegalED
  | .opF4 => .illegalF4
  | .opFC => .illegalFC
  | .opFD => .illegalFD

theorem primaryEntry_illegal (k : IllegalOp) : primaryEntry k.byte = .op k.instr := by cases k <;> rfl

theorem exec_illegal (k : IllegalOp) (s : State) : exec k.instr s = .fault (.invalidOpcode k.byte (s.pc - 1#16)) := by
  cases k <;> rfl

/-- The fetch reads nothing past an illegal opcode, and its meaning reports it at pc. -/
theorem step_illegal {s : State} {k : IllegalOp} (hx : s.interruptExt = false) (ha : s.accessible s.pc = true)
    (hop : s.byteAt s.pc = k.byte) : step s = .fault (.invalidOpcode k.byte s.pc) := by
  have hn : needsExtension k.byte = false := by cases k <;> rfl
  rw [step_base hx, runInstruction, fetchInstr_eq_fetchRest ha (by rw [hop, hn]), fetchRest, hop, primaryEntry_illegal]
  simp [pure, Except.pure, exec_illegal, Fetched.start]

/-- Settles O50: each clause is the fetch up to the byte that decides it. -/
theorem fetchFaultsInOrder : Obligations.FetchFaultsInOrder := by
  unfold Obligations.FetchFaultsInOrder
  rintro s op hx rfl
  refine ⟨fun h => step_fetch_error hx (fetchInstr_not_accessible h), fun ha => ⟨?_, ?_, ?_, ?_⟩⟩
  · intro hill
    obtain ⟨k, hk⟩ := exists_illegalOp hill
    rw [← hk]
    exact step_illegal hx ha hk.symm
  · intro hop
    exact step_fetch_error hx (fetchInstr_needsExtension hx ha (by simpa [needsExtension] using hop))
  · intro hstop hl h1
    rw [← accessible_noteRead s s.pc] at h1
    apply step_fetch_error hx
    rw [fetchInstr_eq_fetchRest ha (needsExtension_of_length hstop hl)]
    exact fetchRest_second hl h1
  · intro hl h1 h2
    rw [← accessible_noteRead s s.pc] at h1 h2
    have hstop : s.byteAt s.pc ≠ 0x10#8 := fun h => by rw [h] at hl; cases hl
    apply step_fetch_error hx
    rw [fetchInstr_eq_fetchRest ha (needsExtension_of_length hstop (by omega))]
    exact fetchRest_third hl h1 h2

end Sys2Proof.Machine
end

section
/-! PROOF of O17 to O20. A form says both what an instruction's bytes are and what it answers; a form of one access
completes where its address can be reached and is fatal otherwise (spec 40_load8.md R120 to R138; 41_load16.md R150,
R152). -/

namespace Sys2Proof.Machine

/-! ### Forms of no access and of one -/

theorem encode_of_form {i : Instr} {f : Form} (h : formOf i = f) : encode i = formBytes f := by
  rw [encode_eq_formBytes, h]

theorem exec_of_form {i : Instr} {f : Form} (h : formOf i = f) (s : State) : exec i s = runForm s f := by
  rw [exec_eq_run, h]

/-- The prefix and the forms that stop whatever memory holds make no access. -/
theorem run_eq_of_accesses {s : State} {f : Form} (h : f.accesses s ≠ []) :
    runForm s f = answer s (f.accesses s) (nextOf s f) := by
  apply run_eq
  · rintro e rfl
    exact h rfl
  · cases f with
    | halt | stop | illegal => exact absurd rfl h
    | _ => rfl

/-- What an instruction of one access answers. -/
theorem exec_one_access {i : Instr} {s : State} {f : Form} {a : Word} {k : Access} (h : formOf i = f)
    (ha : f.accesses s = [(a, k)]) :
    (s.accessible a = true → exec i s = .next (nextOf s f)) ∧
    (s.accessible a = false → exec i s = .fault (accessFault a k)) := by
  have hexec : exec i s = if s.accessible a then .next (nextOf s f) else .fault (accessFault a k) := by
    rw [exec_of_form h, run_eq_of_accesses (by rw [ha]; simp), ha, answer_byte]
  constructor <;> intro hacc <;> simp [hexec, hacc]

theorem loadsByte_of_form {i : Instr} {s : State} {f : Form} {dst : Reg8} {a : Word} {n : Nat} (h : formOf i = f)
    (ha : f.accesses s = [(a, .read)])
    (hn : nextOf s f = { (s.noteRead a).setReg dst (s.byteAt a) with cycles := n }) : loadsByte i s dst a n := by
  unfold loadsByte
  rw [← hn]
  exact exec_one_access h ha

theorem storesByte_of_form {i : Instr} {s : State} {f : Form} {a : Word} {v : Byte} {n : Nat} (h : formOf i = f)
    (ha : f.accesses s = [(a, .write)]) (hn : nextOf s f = { s.store a v with cycles := n }) :
    storesByte i s a v n := by
  unfold storesByte
  rw [← hn]
  exact exec_one_access h ha

/-! ### The statements -/

/-- Settles O17: the four forms make no access, so they always answer the state with the destination written. -/
theorem registerLoads : Obligations.RegisterLoads := by
  unfold Obligations.RegisterLoads
  intro i s
  refine ⟨fun dst r h => ?_, fun dst n8 h => ?_, fun p n16 h => ?_, fun h => ?_⟩ <;>
    exact ⟨encode_of_form h, exec_of_form h s⟩

/-- Settles O18: each form makes one read, at the address of its rule. -/
theorem memoryLoads : Obligations.MemoryLoads := by
  unfold Obligations.MemoryLoads
  intro i s
  refine ⟨fun dst h => ?_, fun h => ?_, fun h => ?_, fun n16 h => ?_, fun n8 h => ?_, fun h => ?_⟩ <;>
    exact ⟨encode_of_form h, loadsByte_of_form h rfl rfl⟩

/-- Settles O19: each form makes one write, at the address of its rule. -/
theorem memoryStores : Obligations.MemoryStores := by
  unfold Obligations.MemoryStores
  intro i s
  refine ⟨fun r h => ?_, fun n8 h => ?_, fun h => ?_, fun h => ?_, fun n16 h => ?_, fun n8 h => ?_, fun h => ?_⟩ <;>
    exact ⟨encode_of_form h, storesByte_of_form h rfl rfl⟩

/-- Settles O20: each form makes one access, at the HL of the state before. -/
theorem steppedAccesses : Obligations.SteppedAccesses := by
  unfold Obligations.SteppedAccesses
  intro i s dir
  constructor
  · intro h
    have hbytes : encode i = formBytes (.storeAStep dir) := encode_of_form h
    exact ⟨by cases dir <;> exact hbytes, exec_one_access h rfl⟩
  · intro h
    have hbytes : encode i = formBytes (.loadAStep dir) := encode_of_form h
    exact ⟨by cases dir <;> exact hbytes, exec_one_access h rfl⟩

end Sys2Proof.Machine
end

section
/-! PROOF of O21 and O22. A form of one word access completes where both bytes can be reached and is fatal at the first
that cannot; the two additions to SP make no access (spec 41_load16.md R151, R153 to R156; 43_alu16.md R213). -/

namespace Sys2Proof.Machine

/-! ### Forms of one word access -/

/-- What an instruction that accesses one word answers. -/
theorem exec_word_access {i : Instr} {s : State} {f : Form} {a : Word} {k : Access} (h : formOf i = f)
    (ha : f.accesses s = [(a, k), (a + 1#16, k)]) :
    (s.wordReady a = true → exec i s = .next (nextOf s f)) ∧
    (s.wordReady a = false → exec i s = .fault (s.wordFault a k)) := by
  have hexec : exec i s = if s.wordReady a then .next (nextOf s f) else .fault (s.wordFault a k) := by
    rw [exec_of_form h, run_eq_of_accesses (by rw [ha]; simp), ha, answer_word]
  constructor <;> intro hready <;> simp [hexec, hready]

/-- Writing a pair of `POP` does not look at SP. -/
theorem setStackPair_withSp (s : State) (v : Word) (p : StackPair) (w : Word) :
    State.setStackPair { s with sp := v } p w = { s.setStackPair p w with sp := v } := by
  cases p <;> rfl

/-- A `POP` writes its pair and raises SP, in either order. -/
theorem nextOf_pop (s : State) (p : StackPair) :
    nextOf s (.pop p) = { (s.noteWord s.sp).setStackPair p (s.wordAt s.sp) with sp := s.sp + 2#16, cycles := 3 } := by
  rw [nextOf, State.popped, setStackPair_withSp]

/-! ### The flags of an addition to SP -/

theorem flagsAre_spOffsetFlags (sp : Word) (e8 : Byte) :
    flagsAre (spOffsetFlags sp e8) false false (decide (0xF < sp.toNat % 16 + e8.toNat % 16))
      (decide (0xFF < sp.toNat % 256 + e8.toNat)) :=
  flagsAre_packFlags _ _ _ _

/-! ### The statements -/

/-- Settles O21: each form accesses one word, at n16, below SP or at SP. -/
theorem stackAndWordStores : Obligations.StackAndWordStores := by
  unfold Obligations.StackAndWordStores
  intro i s
  refine ⟨fun n16 h => ?_, fun p h => ?_, fun p h => ?_⟩
  · exact ⟨encode_of_form h, exec_word_access h rfl⟩
  · exact ⟨encode_of_form h, exec_word_access h rfl⟩
  · rw [← nextOf_pop]
    exact ⟨encode_of_form h, exec_word_access h rfl⟩

/-- Settles O22: neither form makes an access, and both set the flags by `spOffsetFlags`. -/
theorem spOffsets : Obligations.SpOffsets := by
  unfold Obligations.SpOffsets
  intro i s e8
  constructor <;> intro h <;>
    exact ⟨encode_of_form h, spOffsetFlags s.sp e8, exec_of_form h s, flagsAre_spOffsetFlags s.sp e8⟩

end Sys2Proof.Machine
end

section
/-! PROOF of O23 to O25. An accumulator form reads its operand, writes A and F by `AluOp.apply` and does nothing else;
what is left is the arithmetic of `addWith`, `subWith` and the bitwise operations (spec 42_alu8.md R166 to R189). -/

namespace Sys2Proof.Machine

/-! ### The accumulator forms -/

theorem encode_alu {i : Instr} {op : AluOp} {o : Operand} (h : formOf i = aluForm op o) : encode i = aluBytes op o := by
  rw [encode_of_form h]
  cases o <;> rfl

/-- What an accumulator instruction answers. -/
theorem exec_alu {i : Instr} {op : AluOp} {o : Operand} (h : formOf i = aluForm op o) (s : State) :
    (s.operandReady o = true → exec i s = .next { s.afterOperand o with
      a := (op.apply s.a (s.operand o) (flagC s.f)).a, f := (op.apply s.a (s.operand o) (flagC s.f)).f,
      cycles := aluCycles o }) ∧
    (s.operandReady o = false → exec i s = .fault (accessFault s.hl .read)) := by
  cases o with
  | reg r => exact ⟨fun _ => exec_of_form h s, fun hready => by cases hready⟩
  | imm n8 => exact ⟨fun _ => exec_of_form h s, fun hready => by cases hready⟩
  | mem =>
    have hnext : nextOf s (aluForm op .mem) = { s.noteRead s.hl with
        a := (op.apply s.a (s.byteAt s.hl) (flagC s.f)).a, f := (op.apply s.a (s.byteAt s.hl) (flagC s.f)).f,
        cycles := 2 } := by
      simp only [aluForm, nextOf, applyAlu, noteRead_a, noteRead_f]
    obtain ⟨hdone, hfault⟩ := exec_one_access h (s := s) rfl
    exact ⟨fun hready => by rw [hdone hready, hnext]; rfl, hfault⟩

/-! ### The results -/

/-- `ADD` and `ADC` are one addition, of a carry-in that `ADC` alone takes from C. -/
theorem apply_of_addition {op : AluOp} (h : op = .add ∨ op = .adc) (a v : Byte) (c : Bool) :
    op.apply a v c = addWith a v (if op = .adc ∧ c = true then 1 else 0) := by
  obtain rfl | rfl := h
  · rfl
  · cases c <;> rfl

/-- `SUB`, `SBC` and `CP` are one subtraction, of a borrow-in that `SBC` alone takes from C; `CP` keeps A. -/
theorem apply_of_subtraction {op : AluOp} (h : op = .sub ∨ op = .sbc ∨ op = .cp) (a v : Byte) (c : Bool) :
    op.apply a v c =
      { a := if op = .cp then a else a - v - BitVec.ofNat 8 (if op = .sbc ∧ c = true then 1 else 0),
        f := (subWith a v (if op = .sbc ∧ c = true then 1 else 0)).f } := by
  obtain rfl | rfl | rfl := h
  · rfl
  · cases c <;> rfl
  · rfl

theorem addWith_a (a v : Byte) (cin : Nat) : (addWith a v cin).a = a + v + BitVec.ofNat 8 cin := by
  simp [addWith, BitVec.ofNat_add]

theorem flagsAre_addWith (a v : Byte) (cin : Nat) :
    flagsAre (addWith a v cin).f (decide ((a.toNat + v.toNat + cin) % 256 = 0)) false
      (decide (0xF < a.toNat % 16 + v.toNat % 16 + cin)) (decide (0xFF < a.toNat + v.toNat + cin)) :=
  flagsAre_packFlags _ _ _ _

/-- The difference modulo 256 is zero as a byte where it is as an integer. -/
theorem sub_eq_zero_iff (a v : Byte) (cin : Nat) :
    a - v - BitVec.ofNat 8 cin = 0#8 ↔ ((a.toNat : Int) - v.toNat - cin) % 256 = 0 := by
  rw [← BitVec.toNat_inj]
  simp only [BitVec.toNat_sub, BitVec.toNat_ofNat]
  omega

theorem flagsAre_subWith (a v : Byte) (cin : Nat) :
    flagsAre (subWith a v cin).f (decide (((a.toNat : Int) - v.toNat - cin) % 256 = 0)) true
      (decide (a.toNat % 16 < v.toNat % 16 + cin)) (decide (a.toNat < v.toNat + cin)) := by
  rw [← decide_eq_decide.mpr (sub_eq_zero_iff a v cin)]
  exact flagsAre_packFlags _ _ _ _

/-! ### The statements -/

/-- Settles O23: both operations are `addWith`. -/
theorem additions : Obligations.Additions := by
  unfold Obligations.Additions
  intro i s o op h hop
  obtain ⟨hdone, hfault⟩ := exec_alu h s
  refine ⟨encode_alu h, fun hready cin hcin => ?_, hfault⟩
  subst hcin
  refine ⟨_, ?_, flagsAre_addWith _ _ _⟩
  rw [hdone hready, apply_of_addition hop, addWith_a]

/-- Settles O24: the three operations are `subWith`, whose result `CP` drops. -/
theorem subtractions : Obligations.Subtractions := by
  unfold Obligations.Subtractions
  intro i s o op h hop
  obtain ⟨hdone, hfault⟩ := exec_alu h s
  refine ⟨encode_alu h, fun hready cin hcin => ?_, hfault⟩
  subst hcin
  refine ⟨_, ?_, flagsAre_subWith _ _ _⟩
  rw [hdone hready, apply_of_subtraction hop]

/-- Settles O25: each operation is bitwise on A, with flags that `packFlags` packs. -/
theorem logicOperations : Obligations.LogicOperations := by
  unfold Obligations.LogicOperations
  intro i s o op r h hop
  obtain ⟨hdone, hfault⟩ := exec_alu h s
  refine ⟨encode_alu h, fun hready => ?_, hfault⟩
  rw [hdone hready]
  obtain ⟨rfl, rfl⟩ | ⟨rfl, rfl⟩ | ⟨rfl, rfl⟩ := hop <;> exact ⟨_, rfl, flagsAre_packFlags _ _ _ _⟩

end Sys2Proof.Machine
end

section
/-! PROOF of O26. `INC` and `DEC` of a place: what the two forms do with a register or the byte at HL, and the flags they
leave (spec 42_alu8.md R190 to R193). -/

namespace Sys2Proof.Machine

/-! ### Forms that update a place -/

/-- What an instruction that reads the byte at HL and then writes it answers: the read comes first, so it is what fails. -/
theorem exec_update {i : Instr} {s : State} {f : Form} (h : formOf i = f)
    (ha : f.accesses s = [(s.hl, .read), (s.hl, .write)]) :
    (s.accessible s.hl = true → exec i s = .next (nextOf s f)) ∧
    (s.accessible s.hl = false → exec i s = .fault (accessFault s.hl .read)) := by
  have hexec : exec i s = if s.accessible s.hl then .next (nextOf s f) else .fault (accessFault s.hl .read) := by
    rw [exec_of_form h, run_eq_of_accesses (by rw [ha]; simp), ha, answer_update]
  constructor <;> intro hacc <;> simp [hexec, hacc]

/-- What `INC` of a place answers. -/
theorem exec_inc {i : Instr} {p : Place} (h : formOf i = incForm p) (s : State) :
    (s.placeReady p = true → exec i s = .next { s.putPlace (s.placeValue p + 1#8) p with
      f := incFlags s.f (s.placeValue p), cycles := p.cost 1 3 }) ∧
    (s.placeReady p = false → exec i s = .fault (accessFault s.hl .read)) := by
  cases p with
  | reg r => exact ⟨fun _ => exec_of_form h s, fun hready => by cases hready⟩
  | mem => exact exec_update h rfl

/-- What `DEC` of a place answers. -/
theorem exec_dec {i : Instr} {p : Place} (h : formOf i = decForm p) (s : State) :
    (s.placeReady p = true → exec i s = .next { s.putPlace (s.placeValue p - 1#8) p with
      f := decFlags s.f (s.placeValue p), cycles := p.cost 1 3 }) ∧
    (s.placeReady p = false → exec i s = .fault (accessFault s.hl .read)) := by
  cases p with
  | reg r => exact ⟨fun _ => exec_of_form h s, fun hready => by cases hready⟩
  | mem => exact exec_update h rfl

/-! ### The flags -/

theorem flagsAre_incFlags (f v : Byte) :
    flagsAre (incFlags f v) (decide (v = 0xFF#8)) false (decide (v.toNat % 16 = 0xF)) (flagC f) := by
  have hz : v = 0xFF#8 ↔ v + 1#8 = 0#8 := eq_neg_iff_add_eq_zero (b := 1#8)
  rw [decide_eq_decide.mpr hz]
  exact flagsAre_setFlags _ _ _ _ _

theorem flagsAre_decFlags (f v : Byte) :
    flagsAre (decFlags f v) (decide (v = 0x01#8)) true (decide (v.toNat % 16 = 0x0)) (flagC f) := by
  have hz : v = 0x01#8 ↔ v - 1#8 = 0#8 := sub_eq_zero.symm
  rw [decide_eq_decide.mpr hz]
  exact flagsAre_setFlags _ _ _ _ _

/-! ### The statement -/

/-- Settles O26: by what `INC` and `DEC` of a place answer and the flags they leave. -/
theorem incrementsAndDecrements : Obligations.IncrementsAndDecrements := by
  unfold Obligations.IncrementsAndDecrements
  intro i s p
  constructor <;> intro h
  · obtain ⟨hdone, hfault⟩ := exec_inc h s
    have hbytes : encode i = formBytes (incForm p) := encode_of_form h
    exact ⟨by cases p <;> exact hbytes, fun hready => ⟨_, hdone hready, flagsAre_incFlags _ _⟩, hfault⟩
  · obtain ⟨hdone, hfault⟩ := exec_dec h s
    have hbytes : encode i = formBytes (decForm p) := encode_of_form h
    exact ⟨by cases p <;> exact hbytes, fun hready => ⟨_, hdone hready, flagsAre_decFlags _ _⟩, hfault⟩

end Sys2Proof.Machine
end

section
/-! PROOF of O27 to O29. `DAA` by the two tests of R194, and its arithmetic on packed-decimal bytes; `CPL`, `SCF` and
`CCF` (spec 42_alu8.md R194 to R197). -/

namespace Sys2Proof.Machine

/-! ### The adjustment of `DAA` -/

/-- The test of R194 for adjusting by 0x06. -/
def daaLow (a f : Byte) : Bool := flagH f || (!flagN f && decide (9 < a.toNat % 16))

/-- The test of R194 for adjusting by 0x60. -/
def daaHigh (a f : Byte) : Bool := flagC f || (!flagN f && decide (0x99 < a.toNat))

/-- The two adjustments share no bit, so `DAA` applies their sum. -/
theorem daaAdjust_eq (a f : Byte) :
    daaAdjust a (flagN f) (flagH f) (flagC f) =
      (if daaLow a f then 0x06#8 else 0#8) + (if daaHigh a f then 0x60#8 else 0#8) := by
  have hor (low high : Bool) : (if low then 0x06#8 else 0#8) ||| (if high then 0x60#8 else 0#8) =
      (if low then 0x06#8 else 0#8) + (if high then 0x60#8 else 0#8) := by
    revert low high; decide
  rw [← hor]
  cases hn : flagN f <;> simp [daaAdjust, daaLow, daaHigh, lowNibble, hn]

theorem daaResult_a (a f : Byte) :
    (daaResult a f).a =
      if flagN f then a - (if daaLow a f then 0x06#8 else 0#8) - (if daaHigh a f then 0x60#8 else 0#8)
      else a + (if daaLow a f then 0x06#8 else 0#8) + (if daaHigh a f then 0x60#8 else 0#8) := by
  simp only [daaResult, daaAdjust_eq, sub_sub, add_assoc]

/-- The carry that `DAA` leaves: a subtraction keeps C, an addition sets it where A is adjusted by 0x60. -/
theorem flagsAre_daaResult (a f : Byte) :
    flagsAre (daaResult a f).f (decide ((daaResult a f).a = 0#8)) (flagN f) false
      (if flagN f then flagC f else daaHigh a f) := by
  have hc : (if flagN f then flagC f else daaHigh a f) = (flagC f || (!flagN f && decide (0x99 < a.toNat))) := by
    cases hn : flagN f <;> simp [daaHigh, hn]
  rw [hc]
  exact flagsAre_setFlags _ _ _ _ _

/-! ### `DAA` on packed-decimal bytes -/

/-- The packed-decimal form of a number below 100: its digits in the two halves of a byte. -/
def packedDecimal (x : Nat) : Nat := x / 10 * 16 + x % 10

/-- The bytes add to more than 0x99 where the numbers add to 100 or more. -/
theorem packedDecimal_add_gt_iff (x y : Nat) : 0x99 < packedDecimal x + packedDecimal y ↔ 100 ≤ x + y := by
  have htens : x + y < 100 → x / 10 + y / 10 ≤ 9 := by omega
  unfold packedDecimal
  omega

/-- After an addition: H is the carry of the low digits and C that of the high ones, so that the two tests say which
digits of the sum passed 9. -/
theorem daaResult_addWith {a b : Byte} {x y : Nat} (hx : x < 100) (hy : y < 100) (ha : a.toNat = packedDecimal x)
    (hb : b.toNat = packedDecimal y) :
    (daaResult (addWith a b 0).a (addWith a b 0).f).a.toNat = (x + y) % 100 / 10 * 16 + (x + y) % 10 ∧
      flagC (daaResult (addWith a b 0).a (addWith a b 0).f).f = decide (100 ≤ x + y) := by
  obtain ⟨-, hn, hh, hc, -⟩ := flagsAre_addWith a b 0
  obtain ⟨-, -, -, hcarry, -⟩ := flagsAre_daaResult (addWith a b 0).a (addWith a b 0).f
  have hsum : (addWith a b 0).a.toNat = (packedDecimal x + packedDecimal y) % 256 := by
    rw [addWith_a]; simp [ha, hb]
  have hlow : daaLow (addWith a b 0).a (addWith a b 0).f = decide (9 < x % 10 + y % 10) := by
    rw [daaLow, hn, hh, hsum, ha, hb, packedDecimal, packedDecimal, Bool.eq_iff_iff]
    simp only [Bool.or_eq_true, Bool.not_false, Bool.true_and, decide_eq_true_eq]
    omega
  have hhigh : daaHigh (addWith a b 0).a (addWith a b 0).f = decide (100 ≤ x + y) := by
    rw [daaHigh, hn, hc, hsum, ha, hb, Bool.eq_iff_iff]
    simp only [Bool.or_eq_true, Bool.not_false, Bool.true_and, decide_eq_true_eq, ← packedDecimal_add_gt_iff]
    omega
  refine ⟨?_, by rw [hcarry, hn, if_neg (by simp), hhigh]⟩
  rw [daaResult_a, hn, hlow, hhigh, if_neg (by simp), BitVec.toNat_add, BitVec.toNat_add, hsum, packedDecimal, packedDecimal]
  by_cases h1 : 9 < x % 10 + y % 10 <;> by_cases h2 : 100 ≤ x + y <;> simp [h1, h2] <;> omega

/-- After a subtraction: H is the borrow of the low digits and C that of the whole bytes, which is the decimal one. -/
theorem daaResult_subWith {a b : Byte} {x y : Nat} (hx : x < 100) (hy : y < 100) (ha : a.toNat = packedDecimal x)
    (hb : b.toNat = packedDecimal y) :
    (daaResult (subWith a b 0).a (subWith a b 0).f).a.toNat = (100 + x - y) % 100 / 10 * 16 + (100 + x - y) % 10 ∧
      flagC (daaResult (subWith a b 0).a (subWith a b 0).f).f = decide (x < y) := by
  obtain ⟨-, hn, hh, hc, -⟩ := flagsAre_subWith a b 0
  obtain ⟨-, -, -, hcarry, -⟩ := flagsAre_daaResult (subWith a b 0).a (subWith a b 0).f
  have hdiff : (subWith a b 0).a.toNat = (256 - packedDecimal y + packedDecimal x) % 256 := by
    simp [subWith, BitVec.toNat_sub, ha, hb]
  have hlow : daaLow (subWith a b 0).a (subWith a b 0).f = decide (x % 10 < y % 10) := by
    rw [daaLow, hn, hh, ha, hb, packedDecimal, packedDecimal, Bool.not_true, Bool.false_and, Bool.or_false,
      decide_eq_decide]
    omega
  have hborrow : flagC (subWith a b 0).f = decide (x < y) := by
    rw [hc, ha, hb, packedDecimal, packedDecimal, decide_eq_decide]
    omega
  have hhigh : daaHigh (subWith a b 0).a (subWith a b 0).f = decide (x < y) := by
    rw [daaHigh, hn, hborrow]; simp
  refine ⟨?_, by rw [hcarry, hn, if_pos rfl, hborrow]⟩
  rw [daaResult_a, hn, hlow, hhigh, if_pos rfl, BitVec.toNat_sub, BitVec.toNat_sub, hdiff, packedDecimal, packedDecimal]
  by_cases h1 : x % 10 < y % 10 <;> by_cases h2 : x < y <;> simp [h1, h2] <;> omega

/-! ### The statements -/

/-- Settles O27: `DAA` makes no access, and adjusts by the two tests. -/
theorem Alu8.decimalAdjust : Obligations.DecimalAdjust := by
  unfold Obligations.DecimalAdjust
  rintro i s low high r c h rfl rfl hr rfl
  have hr' : r = (daaResult s.a s.f).a := hr.trans (daaResult_a s.a s.f).symm
  subst hr'
  exact ⟨encode_of_form h, _, exec_of_form h s, flagsAre_daaResult s.a s.f⟩

/-- Settles O28: the state after the two instructions holds `daaResult` of what the first left. -/
theorem decimalAdjustCorrectsPackedDecimal : Obligations.DecimalAdjustCorrectsPackedDecimal := by
  unfold Obligations.DecimalAdjustCorrectsPackedDecimal
  intro s t u x y hx hy ha hb
  constructor <;> intro ht hu
  · obtain rfl := exec_next ht
    obtain rfl := exec_next hu
    exact daaResult_addWith hx hy ha hb
  · obtain rfl := exec_next ht
    obtain rfl := exec_next hu
    exact daaResult_subWith hx hy ha hb

/-- Settles O29: none of the three makes an access, and `setFlags` leaves the flags it is not given. -/
theorem flagAdjustments : Obligations.FlagAdjustments := by
  unfold Obligations.FlagAdjustments
  intro i s
  refine ⟨fun h => ?_, fun h => ?_, fun h => ?_⟩
  · have hnot : s.a ^^^ 0xFF#8 = ~~~s.a := BitVec.xor_allOnes
    rw [← hnot]
    exact ⟨encode_of_form h, _, exec_of_form h s, flagsAre_setFlags _ _ _ _ _⟩
  · exact ⟨encode_of_form h, _, exec_of_form h s, flagsAre_setFlags _ _ _ _ _⟩
  · exact ⟨encode_of_form h, _, exec_of_form h s, flagsAre_setFlags _ _ _ _ _⟩

end Sys2Proof.Machine
end

section
/-! PROOF of O30. `ADD HL,rr`, `INC rr` and `DEC rr` over the four pairs (spec 43_alu16.md R210 to R212). -/

namespace Sys2Proof.Machine

theorem flagsAre_addHlFlags (f : Byte) (hl v : Word) :
    flagsAre (addHlFlags f hl v) (flagZ f) false (decide (0xFFF < hl.toNat % 0x1000 + v.toNat % 0x1000))
      (decide (0xFFFF < hl.toNat + v.toNat)) :=
  flagsAre_setFlags _ _ _ _ _

/-- Settles O30: none of the three forms makes an access, and only `ADD HL,rr` sets flags. -/
theorem pairArithmetic : Obligations.PairArithmetic := by
  unfold Obligations.PairArithmetic
  intro i s p
  refine ⟨fun h => ?_, fun h => ?_, fun h => ?_⟩
  · exact ⟨encode_of_form h, addHlFlags s.f s.hl (s.pair p), exec_of_form h s, flagsAre_addHlFlags _ _ _⟩
  · exact ⟨encode_of_form h, exec_of_form h s⟩
  · exact ⟨encode_of_form h, exec_of_form h s⟩

end Sys2Proof.Machine
end

section
/-! PROOF of O31 to O33. The eight result bytes of R224, which the model joins from bit fields, as shifts and rotations
of the byte; what the rotate forms answer on A and on a place (spec 44_rotate_shift.md R220 to R240). -/

namespace Sys2Proof.Machine

/-! ### A bit moved in at either end -/

theorem getLsbD_shiftInLow (v : Byte) (b : Bool) {k : Nat} (hk : k < 8) :
    BitVec.getLsbD (w := 8) (v.extractLsb' 0 7 ++ BitVec.ofBool b) k = if k = 0 then b else v.getLsbD (k - 1) := by
  rw [BitVec.getLsbD_append]
  cases k with
  | zero => simp
  | succ k => simp [show k < 7 by omega]

theorem getLsbD_shiftInHigh (v : Byte) (b : Bool) {k : Nat} (hk : k < 8) :
    BitVec.getLsbD (w := 8) (BitVec.ofBool b ++ v.extractLsb' 1 7) k = if k < 7 then v.getLsbD (1 + k) else b := by
  rw [BitVec.getLsbD_append]
  by_cases h : k < 7
  · simp [h]
  · obtain rfl : k = 7 := by omega
    simp

theorem shiftInLow_eq (v : Byte) (b : Bool) :
    v.extractLsb' 0 7 ++ BitVec.ofBool b = v <<< 1 ||| (if b then 0x01#8 else 0#8) := by
  apply BitVec.eq_of_getLsbD_eq
  intro k hk
  rw [getLsbD_shiftInLow v b hk]
  cases k with
  | zero => cases b <;> simp
  | succ k => cases b <;> simp [-BitVec.getLsbD_eq_getElem, hk]

theorem shiftInHigh_eq (v : Byte) (b : Bool) :
    BitVec.ofBool b ++ v.extractLsb' 1 7 = v >>> 1 ||| (if b then 0x80#8 else 0#8) := by
  have hmask : (0x80#8 : Byte) = BitVec.twoPow 8 7 := rfl
  apply BitVec.eq_of_getLsbD_eq
  intro k hk
  rw [getLsbD_shiftInHigh v b hk, hmask]
  by_cases h : k < 7
  · cases b <;> simp [h, show 7 ≠ k by omega]
  · obtain rfl : k = 7 := by omega
    cases b <;> simp

/-! ### The results of R224 -/

theorem result_rlc (v : Byte) (b : Bool) : RotOp.rlc.result v b = v.rotateLeft 1 := by
  apply BitVec.eq_of_getLsbD_eq
  intro k hk
  rw [RotOp.result, getLsbD_shiftInLow _ _ hk, BitVec.getLsbD_rotateLeft]
  cases k <;> simp [hk]

theorem result_rrc (v : Byte) (b : Bool) : RotOp.rrc.result v b = v.rotateRight 1 := by
  apply BitVec.eq_of_getLsbD_eq
  intro k hk
  rw [RotOp.result, getLsbD_shiftInHigh _ _ hk, BitVec.getLsbD_rotateRight]
  by_cases h : k < 7
  · simp [h]
  · obtain rfl : k = 7 := by omega
    rfl

theorem result_sra (v : Byte) (b : Bool) : RotOp.sra.result v b = v.sshiftRight 1 := by
  apply BitVec.eq_of_getLsbD_eq
  intro k hk
  rw [RotOp.result, getLsbD_shiftInHigh _ _ hk, BitVec.getLsbD_sshiftRight]
  by_cases h : k < 7
  · simp [h, show 1 + k < 8 by omega, show ¬8 ≤ k by omega]
  · obtain rfl : k = 7 := by omega
    rfl

theorem result_swap (v : Byte) (b : Bool) : RotOp.swap.result v b = v.rotateLeft 4 := by
  apply BitVec.eq_of_getLsbD_eq
  intro k hk
  rw [RotOp.result, BitVec.getLsbD_append, BitVec.getLsbD_rotateLeft]
  by_cases h : k < 4
  · simp [h]
  · simp [h, show k - 4 < 4 by omega, show k < 8 by omega]

theorem result_rl (v : Byte) (b : Bool) : RotOp.rl.result v b = v <<< 1 ||| (if b then 0x01#8 else 0#8) :=
  shiftInLow_eq v b

theorem result_rr (v : Byte) (b : Bool) : RotOp.rr.result v b = v >>> 1 ||| (if b then 0x80#8 else 0#8) :=
  shiftInHigh_eq v b

theorem result_sla (v : Byte) (b : Bool) : RotOp.sla.result v b = v <<< 1 :=
  (shiftInLow_eq v false).trans (BitVec.or_zero)

theorem result_srl (v : Byte) (b : Bool) : RotOp.srl.result v b = v >>> 1 :=
  (shiftInHigh_eq v false).trans (BitVec.or_zero)

/-! ### The forms -/

/-- What an accumulator rotate is encoded as and answers; its Z is clear whatever the result. -/
theorem rotA_of_form {i : Instr} {op : RotOp} (h : formOf i = .rotA op) (s : State) :
    encode i = [opcode 0 op.code 7] ∧
    ∃ f, exec i s = .next { s with a := op.result s.a (flagC s.f), f := f, cycles := 1 } ∧
      flagsAre f false false false (op.carryOut s.a) :=
  ⟨encode_of_form h, op.accFlags s.a, exec_of_form h s, flagsAre_packFlags _ _ _ _⟩

theorem encode_rot {i : Instr} {op : RotOp} {p : Place} (h : formOf i = rotForm op p) :
    encode i = [0xCB#8, opcode 0 op.code p.code] := by
  rw [encode_of_form h]
  cases p <;> rfl

/-- What `rot[y]` of a place answers. -/
theorem exec_rot {i : Instr} {op : RotOp} {p : Place} (h : formOf i = rotForm op p) (s : State) :
    (s.placeReady p = true → exec i s = .next { s.putPlace (op.result (s.placeValue p) (flagC s.f)) p with
      f := op.flags (s.placeValue p) (flagC s.f), cycles := p.cost 2 4 }) ∧
    (s.placeReady p = false → exec i s = .fault (accessFault s.hl .read)) := by
  cases p with
  | reg r => exact ⟨fun _ => exec_of_form h s, fun hready => by cases hready⟩
  | mem => exact exec_update h rfl

/-- The shape that O32 and O33 share, for any spelling `r` and `c` of the result and the carry-out of R224. -/
theorem rot_of_form {i : Instr} {s : State} {op : RotOp} {p : Place} {r : Byte} {c : Bool} (h : formOf i = rotForm op p)
    (hr : op.result (s.placeValue p) (flagC s.f) = r) (hc : op.carryOut (s.placeValue p) = c) :
    encode i = [0xCB#8, opcode 0 op.code p.code] ∧
    (s.placeReady p = true →
      ∃ f, exec i s = .next { s.putPlace r p with f := f, cycles := p.cost 2 4 } ∧
        flagsAre f (decide (r = 0#8)) false false c) ∧
    (s.placeReady p = false → exec i s = .fault (accessFault s.hl .read)) := by
  subst hr hc
  obtain ⟨hdone, hfault⟩ := exec_rot h s
  exact ⟨encode_rot h, fun hready => ⟨_, hdone hready, flagsAre_packFlags _ _ _ _⟩, hfault⟩

/-! ### The statements -/

/-- Settles O31: the four operations have the results of R224 and one answer, whose flags hold the carry-out alone. -/
theorem accumulatorRotates : Obligations.AccumulatorRotates := by
  unfold Obligations.AccumulatorRotates
  intro i s
  rw [← result_rlc s.a (flagC s.f), ← result_rrc s.a (flagC s.f), ← result_rl, ← result_rr]
  exact ⟨fun h => rotA_of_form h s, fun h => rotA_of_form h s, fun h => rotA_of_form h s, fun h => rotA_of_form h s⟩

/-- Settles O32: `rot_of_form` at each of the four operations, whose results are the shifts stated. -/
theorem leftRotatesAndSwap : Obligations.LeftRotatesAndSwap := by
  unfold Obligations.LeftRotatesAndSwap
  rintro i s p op v r c h rfl hop
  obtain ⟨rfl, rfl, rfl⟩ | ⟨rfl, rfl, rfl⟩ | ⟨rfl, rfl, rfl⟩ | ⟨rfl, rfl, rfl⟩ := hop
  · exact rot_of_form h (result_rlc _ _) rfl
  · exact rot_of_form h (result_rl _ _) rfl
  · exact rot_of_form h (result_sla _ _) rfl
  · exact rot_of_form h (result_swap _ _) rfl

/-- Settles O33: `rot_of_form` at each of the four operations, whose carry-out is bit 0 of the old byte. -/
theorem rightRotatesAndShifts : Obligations.RightRotatesAndShifts := by
  unfold Obligations.RightRotatesAndShifts
  rintro i s p op v r c h rfl rfl hop
  obtain ⟨rfl, rfl⟩ | ⟨rfl, rfl⟩ | ⟨rfl, rfl⟩ | ⟨rfl, rfl⟩ := hop
  · exact rot_of_form h (result_rrc _ _) rfl
  · exact rot_of_form h (result_rr _ _) rfl
  · exact rot_of_form h (result_sra _ _) rfl
  · exact rot_of_form h (result_srl _ _) rfl

end Sys2Proof.Machine
end

section
/-! PROOF of O34 and O35. The bits of `resBit` and `setBit`, and what the three single-bit forms do with a register or the
byte at HL (spec 45_bit.md R250 to R255). -/

namespace Sys2Proof.Machine

/-! ### The bits of the results -/

theorem getLsbD_bitMask (b : Fin 8) (k : Nat) : (bitMask b).getLsbD k = decide (k = b.val) := by
  have hmask : bitMask b = BitVec.twoPow 8 b.val := rfl
  rw [hmask, BitVec.getLsbD_twoPow, decide_eq_true b.isLt, Bool.true_and, decide_eq_decide.mpr eq_comm]

theorem getLsbD_resBit (v : Byte) (b : Fin 8) {k : Nat} (hk : k < 8) :
    (resBit v b).getLsbD k = if k = b.val then false else v.getLsbD k := by
  rw [resBit, BitVec.getLsbD_and, BitVec.getLsbD_not, getLsbD_bitMask]
  by_cases h : k = b.val <;> simp [h, hk]

theorem getLsbD_setBit (v : Byte) (b : Fin 8) (k : Nat) :
    (setBit v b).getLsbD k = if k = b.val then true else v.getLsbD k := by
  rw [setBit, BitVec.getLsbD_or, getLsbD_bitMask]
  by_cases h : k = b.val <;> simp [h]

/-- The bits that R252 and R253 state of the result determine it. -/
theorem eq_resBit {v r : Byte} {b : Fin 8} (h : ∀ k < 8, r.getLsbD k = if k = b.val then false else v.getLsbD k) :
    r = resBit v b :=
  BitVec.eq_of_getLsbD_eq fun k hk => (h k hk).trans (getLsbD_resBit v b hk).symm

/-- The bits that R254 and R255 state of the result determine it. -/
theorem eq_setBit {v r : Byte} {b : Fin 8} (h : ∀ k < 8, r.getLsbD k = if k = b.val then true else v.getLsbD k) :
    r = setBit v b :=
  BitVec.eq_of_getLsbD_eq fun k hk => (h k hk).trans (getLsbD_setBit v b k).symm

theorem flagsAre_bitFlags (f v : Byte) (b : Fin 8) :
    flagsAre (bitFlags f v b) (!v.getLsbD b.val) false true (flagC f) :=
  flagsAre_setFlags _ _ _ _ _

/-! ### The forms -/

/-- What `BIT` of a place answers: it reads the place and changes F alone. -/
theorem exec_bit {i : Instr} {b : Fin 8} {p : Place} (h : formOf i = bitForm b p) (s : State) :
    (s.placeReady p = true → exec i s = .next { s.afterPlace p with
      f := bitFlags s.f (s.placeValue p) b, cycles := p.cost 2 3 }) ∧
    (s.placeReady p = false → exec i s = .fault (accessFault s.hl .read)) := by
  cases p with
  | reg r => exact ⟨fun _ => exec_of_form h s, fun hready => by cases hready⟩
  | mem => exact exec_one_access h rfl

/-- What `RES` of a place answers. -/
theorem exec_res {i : Instr} {b : Fin 8} {p : Place} (h : formOf i = resForm b p) (s : State) :
    (s.placeReady p = true → exec i s = .next { s.putPlace (resBit (s.placeValue p) b) p with cycles := p.cost 2 4 }) ∧
    (s.placeReady p = false → exec i s = .fault (accessFault s.hl .read)) := by
  cases p with
  | reg r => exact ⟨fun _ => exec_of_form h s, fun hready => by cases hready⟩
  | mem => exact exec_update h rfl

/-- What `SET` of a place answers. -/
theorem exec_set {i : Instr} {b : Fin 8} {p : Place} (h : formOf i = setForm b p) (s : State) :
    (s.placeReady p = true → exec i s = .next { s.putPlace (setBit (s.placeValue p) b) p with cycles := p.cost 2 4 }) ∧
    (s.placeReady p = false → exec i s = .fault (accessFault s.hl .read)) := by
  cases p with
  | reg r => exact ⟨fun _ => exec_of_form h s, fun hready => by cases hready⟩
  | mem => exact exec_update h rfl

/-! ### The statements -/

/-- Settles O34: the one access of `BIT` is the read of its place, and its flags are `bitFlags`. -/
theorem bitTests : Obligations.BitTests := by
  unfold Obligations.BitTests
  intro i s p b h
  obtain ⟨hdone, hfault⟩ := exec_bit h s
  have hbytes : encode i = formBytes (bitForm b p) := encode_of_form h
  exact ⟨by cases p <;> exact hbytes, fun hready => ⟨_, hdone hready, flagsAre_bitFlags _ _ _⟩, hfault⟩

/-- Settles O35: the byte stated bit by bit is the one that `RES` or `SET` puts in the place. -/
theorem bitChanges : Obligations.BitChanges := by
  unfold Obligations.BitChanges
  intro i s p b r
  constructor <;> intro h hbits
  · obtain rfl := eq_resBit hbits
    have hbytes : encode i = formBytes (resForm b p) := encode_of_form h
    exact ⟨by cases p <;> exact hbytes, exec_res h s⟩
  · obtain rfl := eq_setBit hbits
    have hbytes : encode i = formBytes (setForm b p) := encode_of_form h
    exact ⟨by cases p <;> exact hbytes, exec_set h s⟩

end Sys2Proof.Machine
end

section
/-! PROOF of O36 to O38. A control transfer makes no access or accesses one word of the stack. Its conditional form is the
unconditional one where `cond(cc)` holds, and otherwise makes no access and changes only the cycles (spec 46_control.md
R260 to R271). -/

namespace Sys2Proof.Machine

/-! ### Transfers by their accesses -/

/-- What a transfer that makes no access answers. -/
theorem exec_no_access {i : Instr} {s t : State} {f : Form} (h : formOf i = f) (hp : ∀ e, f ≠ .prefixCb e)
    (hs : stopsAlways s f = false) (ha : f.accesses s = []) (hn : nextOf s f = t) : exec i s = .next t := by
  rw [exec_of_form h, run_eq hp hs, ha, hn, answer_nil]

theorem callsTo_of_form {i : Instr} {s : State} {f : Form} {target : Word} {n : Nat} (h : formOf i = f)
    (ha : f.accesses s = pushAccesses s) (hn : nextOf s f = { s.pushed s.pc with pc := target, cycles := n }) :
    callsTo i s target n := by
  unfold callsTo
  rw [← hn]
  exact exec_word_access h ha

/-- What a transfer that pops its target answers. -/
theorem exec_pop_access {i : Instr} {s t : State} {f : Form} (h : formOf i = f) (ha : f.accesses s = popAccesses s)
    (hn : nextOf s f = t) :
    (s.wordReady s.sp = true → exec i s = .next t) ∧
    (s.wordReady s.sp = false → exec i s = .fault (s.wordFault s.sp .read)) := by
  rw [← hn]
  exact exec_word_access h ha

/-! ### The statements -/

/-- Settles O36: no jump makes an access, and `cond(cc)` is the bit of F that decides. -/
theorem jumps : Obligations.Jumps := by
  unfold Obligations.Jumps
  intro i s cc taken htaken
  obtain rfl : taken = s.cond cc := htaken.trans (by cases cc <;> rfl)
  refine ⟨fun n16 h => ?_, fun n16 h => ?_, fun h => ?_, fun e8 h => ?_, fun e8 h => ?_⟩ <;>
    exact ⟨encode_of_form h, exec_no_access h nofun rfl rfl rfl⟩

/-- Settles O37: a taken `CALL cc` has the accesses and the next state of `CALL`, one not taken has no access. -/
theorem calls : Obligations.Calls := by
  unfold Obligations.Calls
  intro i s cc
  refine ⟨fun n16 h => ?_, fun n16 h => ?_, fun t h => ?_⟩
  · exact ⟨encode_of_form h, callsTo_of_form h rfl rfl⟩
  · refine ⟨encode_of_form h, fun hcond => callsTo_of_form h (if_pos hcond) (if_pos hcond), fun hcond => ?_⟩
    have hcond := ne_true_of_eq_false hcond
    exact exec_no_access h nofun rfl (if_neg hcond) (if_neg hcond)
  · exact ⟨encode_of_form h, callsTo_of_form h rfl rfl⟩

/-- Settles O38: each taken return pops one word; a `RET cc` not taken has no access. -/
theorem returns : Obligations.Returns := by
  unfold Obligations.Returns
  intro i s cc
  refine ⟨fun h => ?_, fun h => ?_, fun h => ?_⟩
  · exact ⟨encode_of_form h, exec_pop_access h rfl rfl⟩
  · have htaken (hcond : s.cond cc = true) := exec_pop_access h (if_pos hcond) (if_pos hcond)
    refine ⟨encode_of_form h, fun hcond => (htaken hcond).1, fun hcond => (htaken hcond).2, fun hcond => ?_⟩
    have hcond := ne_true_of_eq_false hcond
    exact exec_no_access h nofun rfl (if_neg hcond) (if_neg hcond)
  · exact ⟨encode_of_form h, exec_pop_access h rfl rfl⟩

end Sys2Proof.Machine
end

section
/-! PROOF of O39 to O41. The system instructions and the illegal opcodes by their forms (spec 47_misc.md R280 to R286;
60_exceptions.md R304, R305, R325 to R327). -/

namespace Sys2Proof.Machine

theorem illegalOp_byte_mem (k : IllegalOp) :
    k.byte ∈ [0xD3#8, 0xDB#8, 0xDD#8, 0xE3#8, 0xE4#8, 0xEB#8, 0xEC#8, 0xED#8, 0xF4#8, 0xFC#8, 0xFD#8] := by
  cases k <;> decide

/-- With the extension `HALT` and `STOP` complete (R325, R326). -/
theorem enterHalt_ext {s : State} {op : Byte} {len : Word} (hx : s.interruptExt = true) :
    enterHalt op len s = .next { s with halted := true, cycles := 1 } := by
  unfold enterHalt
  rw [hx]
  rfl

/-- `DI` clears both bits with the extension and nothing without (R283, R327). -/
theorem nextOf_di (s : State) :
    (s.interruptExt = true → nextOf s .di = { s with ime := false, eiPending := false, cycles := 1 }) ∧
    (s.interruptExt = false → nextOf s .di = { s with cycles := 1 }) := by
  constructor <;> intro hx <;> simp [nextOf, hx]

/-- `EI` sets `ei_pending` with the extension and nothing without (R284, R327). -/
theorem nextOf_ei (s : State) :
    (s.interruptExt = true → nextOf s .ei = { s with eiPending := true, cycles := 1 }) ∧
    (s.interruptExt = false → nextOf s .ei = { s with cycles := 1 }) := by
  constructor <;> intro hx <;> simp [nextOf, hx]

/-- Settles O39: none of the three makes an access, so each always answers `nextOf` of its form. -/
theorem nopAndInterruptMask : Obligations.NopAndInterruptMask := by
  unfold Obligations.NopAndInterruptMask
  intro i s
  refine ⟨fun h => ?_, fun h => ?_, fun h => ?_⟩
  · exact ⟨encode_of_form h, exec_of_form h s⟩
  · have hdi := nextOf_di s
    exact ⟨encode_of_form h, fun hx => exec_no_access h nofun rfl rfl (hdi.1 hx),
      fun hx => exec_no_access h nofun rfl rfl (hdi.2 hx)⟩
  · have hei := nextOf_ei s
    exact ⟨encode_of_form h, fun hx => exec_no_access h nofun rfl rfl (hei.1 hx),
      fun hx => exec_no_access h nofun rfl rfl (hei.2 hx)⟩

/-- Settles O40: both run `enterHalt`, with their opcode and their length. -/
theorem haltAndStop : Obligations.HaltAndStop := by
  unfold Obligations.HaltAndStop
  intro i s
  refine ⟨fun h => ?_, fun n8 h => ?_⟩ <;>
    exact ⟨encode_of_form h, fun hx => (exec_of_form h s).trans (enterHalt_ext hx),
      fun hx => (exec_of_form h s).trans (enterHalt_base hx)⟩

/-- Settles O41: the form stops whatever the state, and the fetch reads nothing past its opcode. -/
theorem illegalOpcodesStop : Obligations.IllegalOpcodesStop := by
  unfold Obligations.IllegalOpcodesStop
  exact fun i s k h => ⟨encode_of_form h, illegalOp_byte_mem k, exec_of_form h s, step_illegal⟩

end Sys2Proof.Machine
end

section
/-! PROOF of O49, O52, O53 and O54. The step with the extension is a check of the pending sources and then one of three
things: it idles, takes an interrupt, or runs the instruction at pc and settles `ime` (spec 60_exceptions.md R320 to
R328). -/

namespace Sys2Proof.Machine

/-! ### The check of the pending sources -/

/-- The sources that the check at the start of a step finds both pending and enabled. -/
def State.pendingByte (s : State) : Byte :=
  s.byteAt 0xFFFF#16 &&& (s.noteRead 0xFFFF#16).byteAt 0xFF0F#16 &&& 0x1F#8

/-- The state after the two reads of the check. -/
def State.afterCheck (s : State) : State := (s.noteRead 0xFFFF#16).noteRead 0xFF0F#16

@[simp] theorem afterCheck_sp (s : State) : s.afterCheck.sp = s.sp := by simp [State.afterCheck]

@[simp] theorem afterCheck_pc (s : State) : s.afterCheck.pc = s.pc := by simp [State.afterCheck]

@[simp] theorem afterCheck_ime (s : State) : s.afterCheck.ime = s.ime := by simp [State.afterCheck]

@[simp] theorem afterCheck_halted (s : State) : s.afterCheck.halted = s.halted := by simp [State.afterCheck]

@[simp] theorem afterCheck_eiPending (s : State) : s.afterCheck.eiPending = s.eiPending := by simp [State.afterCheck]

@[simp] theorem afterCheck_interruptExt (s : State) : s.afterCheck.interruptExt = s.interruptExt := by
  simp [State.afterCheck]

@[simp] theorem accessible_afterCheck (s : State) (a : Word) : s.afterCheck.accessible a = s.accessible a := by
  simp [State.afterCheck]

theorem pendingSources_eq {s : State} (hie : s.accessible 0xFFFF#16 = true) (hif : s.accessible 0xFF0F#16 = true) :
    s.pendingSources = .ok (s.pendingByte, s.afterCheck) := by
  have hif' : (s.noteRead 0xFFFF#16).accessible 0xFF0F#16 = true := by rwa [accessible_noteRead]
  simp only [State.pendingSources, ieAddress, ifAddress, readByte_ok hie, readByte_ok hif', bind, Except.bind]
  rfl

/-- With the extension, and both registers in reach, a step goes on with what the check found. -/
theorem step_ext {s : State} (hx : s.interruptExt = true) (hie : s.accessible 0xFFFF#16 = true)
    (hif : s.accessible 0xFF0F#16 = true) : step s = stepWithPending s.pendingByte s.afterCheck := by
  unfold step oneStep stepWithInterrupts
  rw [if_pos hx, pendingSources_eq hie hif]

/-! ### The three things a step can do after the check -/

theorem stepWithPending_idle {s : State} {pending : Byte} (hh : s.halted = true) (hp : pending = 0#8) :
    stepWithPending pending s = .next { s with cycles := 1 } := by
  simp [stepWithPending, hh, hp]

theorem stepWithPending_dispatch {s : State} {pending : Byte} (hi : s.ime = true) (hp : pending ≠ 0#8) :
    stepWithPending pending s = finish 5 (State.takeInterrupt { s with halted := false } (lowestSource pending)) := by
  simp [stepWithPending, hi, hp]

theorem stepWithPending_run {s : State} {pending : Byte} (hidle : s.halted = false ∨ pending ≠ 0#8)
    (hdispatch : s.ime = false ∨ pending = 0#8) :
    stepWithPending pending s = runAfterCheck { s with halted := false } := by
  have h1 : (s.halted && pending == 0#8) = false := by simpa [imp_iff_not_or] using hidle
  have h2 : (s.ime && pending != 0#8) = false := by simpa [imp_iff_not_or] using hdispatch
  simp [stepWithPending, h1, h2]

/-- Settles O53: the check finds nothing, so the halted machine idles. -/
theorem haltedIdles : Obligations.HaltedIdles := by
  unfold Obligations.HaltedIdles
  intro s hx hh hie hif hp
  rw [step_ext hx hie hif]
  exact stepWithPending_idle (by rwa [afterCheck_halted]) hp

/-! ### Taking an interrupt -/

/-- A read does not look at the interrupt bits. -/
theorem noteRead_withControl (s : State) (i h : Bool) (a : Word) :
    State.noteRead { s with ime := i, halted := h } a = { s.noteRead a with ime := i, halted := h } := by
  unfold State.noteRead
  rw [show State.target { s with ime := i, halted := h } a = s.target a from rfl]
  split <;> rfl

/-- A store does not look at the interrupt bits. -/
theorem store_withControl (s : State) (i h : Bool) (a : Word) (v : Byte) :
    State.store { s with ime := i, halted := h } a v = { s.store a v with ime := i, halted := h } := by
  unfold State.store
  rw [show State.target { s with ime := i, halted := h } a = s.target a from rfl]
  split <;> rfl

theorem pushed_withControl (s : State) (i h : Bool) (w : Word) :
    State.pushed { s with ime := i, halted := h } w = { s.pushed w with ime := i, halted := h } := by
  simp only [State.pushed, State.storeWord, store_withControl]

/-- The state after `IF[n]` is cleared, from the byte that a read of `IF` gives (R324). -/
def State.acknowledged (s : State) (n : Nat) : State :=
  (s.noteRead 0xFF0F#16).store 0xFF0F#16 (s.byteAt 0xFF0F#16 &&& ~~~(1#8 <<< n))

theorem acknowledged_withControl (s : State) (i h : Bool) (n : Nat) :
    State.acknowledged { s with ime := i, halted := h } n = { s.acknowledged n with ime := i, halted := h } := by
  simp only [State.acknowledged, noteRead_withControl, store_withControl]
  rfl

/-- Taking an interrupt in a state that is `t` once `ime` is clear, where `IF` and the stack can be reached (R324). -/
theorem takeInterrupt_eq {s t : State} {n : Nat} (ht : t = { s with ime := false })
    (hif : t.accessible 0xFF0F#16 = true) (hstack : t.wordReady (t.sp - 2#16) = true) :
    s.takeInterrupt n = .ok (((t.acknowledged n).pushed t.pc).jump (vectorOf n)) := by
  have hwrite : (t.noteRead 0xFF0F#16).writeByte 0xFF0F#16 (t.byteAt 0xFF0F#16 &&& ~~~(1#8 <<< n)) =
      .ok (t.acknowledged n) := writeByte_ok _ ((accessible_noteRead t _ _).trans hif)
  have hpc : (t.acknowledged n).pc = t.pc := by simp [State.acknowledged]
  have hpush : (t.acknowledged n).push t.pc = .ok ((t.acknowledged n).pushed t.pc) := by
    rw [push_eq]
    exact if_pos (by simpa [State.acknowledged, State.wordReady] using hstack)
  simp only [State.takeInterrupt, ← ht, ifAddress, readByte_ok hif, hwrite, hpc, hpush, bind, Except.bind]
  rfl

/-- The lowest-numbered source, by what it is. -/
theorem lowestSource_eq {pending : Byte} {n : Nat} (hn : n < 5) (hset : pending.getLsbD n = true)
    (hlow : ∀ k < n, pending.getLsbD k = false) : lowestSource pending = n := by
  unfold lowestSource
  interval_cases n <;> simp only [hset, hlow, Bool.false_eq_true, reduceIte, Nat.reduceLT]

/-- Settles O52: the check finds a source, and the lowest one is taken. -/
theorem interruptDispatch : Obligations.InterruptDispatch := by
  unfold Obligations.InterruptDispatch
  rintro s s1 s2 pending n hx hime hie hif rfl hn hset hlow rfl rfl hstack
  have hp : s.pendingByte ≠ 0#8 := fun h => by rw [State.pendingByte] at h; simp [h] at hset
  have hsource : lowestSource s.pendingByte = n := lowestSource_eq hn hset hlow
  have hif' : s.afterCheck.accessible 0xFF0F#16 = true := by rwa [accessible_afterCheck]
  have hstack' : s.afterCheck.wordReady (s.afterCheck.sp - 2#16) = true := by simpa [State.wordReady] using hstack
  have htake := takeInterrupt_eq (s := { s.afterCheck with halted := false }) (n := n) rfl hif' hstack'
  rw [step_ext hx hie hif, stepWithPending_dispatch (s := s.afterCheck) (by rwa [afterCheck_ime]) hp, hsource, htake,
    acknowledged_withControl s.afterCheck, pushed_withControl (s.afterCheck.acknowledged n)]
  simp [State.afterCheck, State.pushed, State.acknowledged, State.jump, vectorOf]

/-! ### Running an instruction -/

/-- The instruction part of R324 on the bytes of an instruction. -/
theorem runAfterCheck_of_bytes {s : State} {i : Instr} (hw : i.wf = true) (hx : s.interruptExt = true)
    (hr : State.bytesReady { s with eiPending := false } s.pc (encode i).length = true)
    (hb : State.bytesFrom { s with eiPending := false } s.pc (encode i).length = encode i) :
    runAfterCheck s = settleEi s.eiPending i
      (exec i { State.afterBytes { s with eiPending := false } s.pc (encode i).length with
        pc := s.pc + BitVec.ofNat 16 (encode i).length }) := by
  unfold runAfterCheck
  rw [fetchInstr_of_bytes (s := { s with eiPending := false }) hw hr hb (by simp [hx])]
  rfl

/-- Settles O49: the check dispatches nothing, and the fetch finds the instruction at pc. -/
theorem stepRunsDecodedInstructionExtension : Obligations.StepRunsDecodedInstructionExtension := by
  unfold Obligations.StepRunsDecodedInstructionExtension
  rintro s s1 i pending hw hx hie hif rfl rfl hidle hdispatch hr hb
  rw [step_ext hx hie hif,
    stepWithPending_run (s := s.afterCheck) (by rwa [afterCheck_halted]) (by rwa [afterCheck_ime])]
  rw [← afterCheck_pc s] at hr hb
  rw [← afterCheck_pc s, ← afterCheck_eiPending s]
  exact runAfterCheck_of_bytes (s := { s.afterCheck with halted := false }) hw (by rwa [afterCheck_interruptExt]) hr hb

/-- What settling leaves of the `ime` and the `ei_pending` of a completed instruction. -/
theorem settleEi_completed {e : Bool} {i : Instr} {o : Out} {t : State} (h : settleEi e i o = .next t) :
    ∃ u, o = .next u ∧ t.ime = (e && !isDi i || u.ime) ∧ t.eiPending = u.eiPending := by
  cases o with
  | next u =>
    cases h
    refine ⟨u, rfl, ?_⟩
    cases e && !isDi i <;> exact ⟨rfl, rfl⟩
  | fault k => cases h
  | refused r => cases h

theorem isDi_eq_false {i : Instr} (h : i ≠ .di) : isDi i = false := by
  unfold isDi
  split
  · exact absurd rfl h
  · rfl

/-- Settles O54: `ime` after the step is the one that the instruction left, or set by an `EI` before it. -/
theorem eiTakesEffectAfterNextInstruction : Obligations.EiTakesEffectAfterNextInstruction := by
  unfold Obligations.EiTakesEffectAfterNextInstruction
  intro s t i hx h
  obtain ⟨u, hu, hime, hei⟩ := settleEi_completed h
  have hnext := exec_next hu
  refine ⟨?_, ?_, ?_, ?_⟩
  · rintro rfl he
    rw [hime, hei, hnext, he, show effectForm .ei = .ei from rfl]
    simp [nextOf, hx]
  · rintro rfl
    rw [hime, hei, hnext, show effectForm .di = .di from rfl]
    simp [nextOf, hx, isDi]
  · intro hd he
    simp [hime, he, isDi_eq_false hd]
  · intro hd hr he
    rw [hime, he, hnext, nextOf_ime (effectForm_ne (j := .di) rfl rfl hd) (effectForm_ne (j := .reti) rfl rfl hr)]
    rfl

end Sys2Proof.Machine
end

section
/-! PROOF of O51 and O59. How a step can end, said once for every part of it: it completes, or is fatal by an access to
an unwired region or by an opcode at pc, and it is never refused (spec 60_exceptions.md R300 to R309;
70_reset_and_hazards.md R349). -/

namespace Sys2Proof.Machine

/-! ### The fatal conditions of a step at pc -/

/-- The fatal condition of an access (R303). -/
def Fault.isUnwired : Fault → Prop
  | .unwiredRegion _ _ _ => True
  | _ => False

/-- The fatal conditions that a step at `pc` can end with (R303 to R305). -/
inductive StepFault (ext : Bool) (pc : Word) : Fault → Prop
  | unwired {k : Fault} (h : k.isUnwired) : StepFault ext pc k
  | illegal (j : IllegalOp) : StepFault ext pc (.invalidOpcode j.byte pc)
  | needsExtension {op : Byte} (hx : ext = false) (hn : needsExtension op = true) :
      StepFault ext pc (.unimplementedInstruction op pc)

/-- An outcome of the step at `pc`: completed, or fatal by one of those. -/
def EndsAt (ext : Bool) (pc : Word) : Out → Prop
  | .next _ => True
  | .fault k => StepFault ext pc k
  | .refused _ => False

/-! ### The operations that may fail fail by an access -/

/-- An operation fails by accesses alone. -/
def FailsUnwired {α : Type} (r : Res α) : Prop := ∀ k, r = .error k → k.isUnwired

theorem failsUnwired_pure {α : Type} (x : α) : FailsUnwired (pure x : Res α) := nofun

theorem failsUnwired_bind {α β : Type} {r : Res α} {f : α → Res β} (hr : FailsUnwired r)
    (hf : ∀ x, FailsUnwired (f x)) : FailsUnwired (r >>= f) := by
  cases r with
  | ok x => exact hf x
  | error e => exact fun k h => by cases h; exact hr e rfl

theorem failsUnwired_readByte (s : State) (a : Word) : FailsUnwired (s.readByte a) := by
  rw [readByte_eq]
  rintro k h
  split at h <;> cases h
  trivial

theorem failsUnwired_writeByte (s : State) (a : Word) (v : Byte) : FailsUnwired (s.writeByte a v) := by
  rw [writeByte_eq]
  rintro k h
  split at h <;> cases h
  trivial

theorem failsUnwired_push (s : State) (w : Word) : FailsUnwired (s.push w) :=
  failsUnwired_bind (failsUnwired_writeByte _ _ _) fun _ => failsUnwired_writeByte _ _ _

theorem failsUnwired_pendingSources (s : State) : FailsUnwired s.pendingSources :=
  failsUnwired_bind (failsUnwired_readByte _ _) fun _ =>
    failsUnwired_bind (failsUnwired_readByte _ _) fun _ => failsUnwired_pure _

theorem failsUnwired_takeInterrupt (s : State) (n : Nat) : FailsUnwired (s.takeInterrupt n) :=
  failsUnwired_bind (failsUnwired_readByte _ _) fun _ =>
    failsUnwired_bind (failsUnwired_writeByte _ _ _) fun _ =>
      failsUnwired_bind (failsUnwired_push _ _) fun _ => failsUnwired_pure _

theorem failsUnwired_fetchRest (s : State) (a : Word) (op : Byte) : FailsUnwired (fetchRest s a op) := by
  intro k h
  obtain ⟨b, -, rfl, -⟩ := fetchRest_error (s := s) (fun _ => rfl) h
  trivial

/-! ### The fetch -/

/-- The fetch fails by an access, or by an opcode that the base core lacks. -/
theorem fetchInstr_error {s : State} {k : Fault} (h : fetchInstr s = .error k) :
    StepFault s.interruptExt s.pc k := by
  unfold fetchInstr at h
  cases hr : s.readByte s.pc with
  | error e =>
    rw [hr] at h
    cases h
    exact .unwired (failsUnwired_readByte _ _ _ hr)
  | ok r =>
    obtain ⟨op, t⟩ := r
    simp only [hr, bind, Except.bind] at h
    split at h
    · rename_i hn
      obtain ⟨hop, hx⟩ : needsExtension op = true ∧ s.interruptExt = false := by simpa using hn
      cases h
      exact .needsExtension hx hop
    · exact .unwired (failsUnwired_fetchRest _ _ _ _ h)

/-- The instruction found is one of the entry at its opcode, and what follows it is as far as its length. -/
theorem fetchRest_entry {s : State} {a : Word} {op : Byte} {x : Fetched} (h : fetchRest s a op = .ok x) :
    ∃ v w, x.instr = (primaryEntry op).instr v w ∧ x.next = a + BitVec.ofNat 16 (primaryEntry op).length := by
  unfold fetchRest at h
  cases he : primaryEntry op with
  | op i => rw [he] at h; cases h; exact ⟨0#8, 0#16, rfl, rfl⟩
  | n16 make =>
    rw [he] at h
    obtain ⟨⟨w, t⟩, -, hx⟩ := bind_eq_ok h
    cases hx
    exact ⟨0#8, w, rfl, rfl⟩
  | n8 make | e8 make | cb =>
    rw [he] at h
    obtain ⟨⟨v, t⟩, -, hx⟩ := bind_eq_ok h
    cases hx
    exact ⟨v, 0#16, rfl, rfl⟩

theorem fetchRest_next {s : State} {a : Word} {op : Byte} {x : Fetched} (h : fetchRest s a op = .ok x) :
    x.next = a + BitVec.ofNat 16 (encode x.instr).length := by
  obtain ⟨v, w, hinstr, hnext⟩ := fetchRest_entry h
  rw [hnext, hinstr, encode_primaryEntry, List.length_cons, Entry.length_operandBytes]

/-- pc in the state where a fetched instruction runs is past its bytes (R94). -/
theorem fetchInstr_next {s : State} {x : Fetched} (h : fetchInstr s = .ok x) :
    x.next = s.pc + BitVec.ofNat 16 (encode x.instr).length := by
  obtain ⟨⟨op, t⟩, -, h⟩ := bind_eq_ok h
  dsimp only at h
  split at h
  · cases h
  · exact fetchRest_next h

/-! ### Every part of a step ends so -/

theorem endsAt_finish {ext : Bool} {pc : Word} {n : Nat} {r : Res State} (h : FailsUnwired r) :
    EndsAt ext pc (finish n r) := by
  cases r with
  | ok u => trivial
  | error k => exact .unwired (h k rfl)

theorem endsAt_answer {ext : Bool} {pc : Word} (s : State) (l : List (Word × Access)) (t : State) :
    EndsAt ext pc (answer s l t) := by
  unfold answer
  split
  · trivial
  · exact .unwired trivial

theorem endsAt_settleEi {ext : Bool} {pc : Word} {e : Bool} {i : Instr} {o : Out} (h : EndsAt ext pc o) :
    EndsAt ext pc (settleEi e i o) := by
  cases o with
  | next u => trivial
  | fault k => exact h
  | refused r => exact h

theorem endsAt_enterHalt {s : State} {op : Byte} {len : Word} (hn : needsExtension op = true) :
    EndsAt s.interruptExt (s.pc - len) (enterHalt op len s) := by
  unfold enterHalt
  split
  · trivial
  · rename_i hx
    exact .needsExtension (by simpa using hx) hn

/-- An instruction reports its own opcode at the address that is its length before pc. -/
theorem endsAt_exec (i : Instr) (s : State) :
    EndsAt s.interruptExt (s.pc - BitVec.ofNat 16 (encode i).length) (exec i s) := by
  rw [exec_eq_effect]
  cases hs : stopsAlways s (effectForm i) with
  | false =>
    rw [run_eq (effectForm_not_prefix i) hs]
    exact endsAt_answer s _ _
  | true =>
    cases hf : effectForm i with
    | illegal j =>
      rw [encode_of_form (formOf_of_effectForm hf rfl)]
      exact .illegal j
    | halt =>
      rw [encode_of_form (formOf_of_effectForm hf rfl)]
      exact endsAt_enterHalt rfl
    | stop n8 =>
      rw [encode_of_form (formOf_of_effectForm hf rfl)]
      exact endsAt_enterHalt rfl
    | _ => rw [hf] at hs; cases hs

/-- A fetched instruction reports its opcode at the pc it was fetched from. -/
theorem endsAt_start {s : State} {x : Fetched} (h : fetchInstr s = .ok x) :
    EndsAt s.interruptExt s.pc (exec x.instr x.start) := by
  obtain ⟨calls, hstart⟩ := fetched_start h
  have hexec := endsAt_exec x.instr x.start
  rw [hstart] at hexec ⊢
  have hpc : x.next - BitVec.ofNat 16 (encode x.instr).length = s.pc := by
    rw [fetchInstr_next h, BitVec.add_sub_cancel]
  rwa [hpc] at hexec

theorem endsAt_runInstruction (s : State) : EndsAt s.interruptExt s.pc (runInstruction s) := by
  unfold runInstruction
  split
  · rename_i k hk; exact fetchInstr_error hk
  · rename_i x hx; exact endsAt_start hx

theorem endsAt_runAfterCheck (s : State) : EndsAt s.interruptExt s.pc (runAfterCheck s) := by
  unfold runAfterCheck
  split
  · rename_i k hk; exact fetchInstr_error (s := { s with eiPending := false }) hk
  · rename_i x hx; exact endsAt_settleEi (endsAt_start (s := { s with eiPending := false }) hx)

theorem endsAt_stepWithPending (pending : Byte) (s : State) :
    EndsAt s.interruptExt s.pc (stepWithPending pending s) := by
  unfold stepWithPending
  split
  · trivial
  dsimp only
  split
  · exact endsAt_finish (failsUnwired_takeInterrupt _ _)
  · exact endsAt_runAfterCheck { s with halted := false }

theorem endsAt_stepWithInterrupts (s : State) : EndsAt s.interruptExt s.pc (stepWithInterrupts s) := by
  unfold stepWithInterrupts
  split
  · rename_i k hk; exact .unwired (failsUnwired_pendingSources s k hk)
  · rename_i pending t hp
    obtain ⟨calls, rfl⟩ := pendingSources_calls hp
    exact endsAt_stepWithPending pending { s with extCalls := calls }

/-- HOW A STEP ENDS, in both configurations. -/
theorem endsAt_step (s : State) : EndsAt s.interruptExt s.pc (step s) := by
  unfold step oneStep
  split
  · exact endsAt_stepWithInterrupts s
  · exact endsAt_runInstruction s

theorem stepFault_of_step {s : State} {k : Fault} (h : step s = .fault k) : StepFault s.interruptExt s.pc k := by
  have hends := endsAt_step s
  rwa [h] at hends

theorem step_ne_refused (s : State) (r : Refusal) : step s ≠ .refused r := by
  intro h
  have hends := endsAt_step s
  rwa [h] at hends

/-- Settles O51: of the fatal conditions of a step only those of an opcode at pc are of these two kinds. -/
theorem opcodeFaultsOnlyThere : Obligations.OpcodeFaultsOnlyThere := by
  unfold Obligations.OpcodeFaultsOnlyThere
  refine fun s op a => ⟨fun h => ?_, fun h => ?_⟩
  · cases stepFault_of_step h with
    | unwired hk => exact hk.elim
    | illegal j => exact ⟨rfl, illegalOp_byte_mem j⟩
  · cases stepFault_of_step h with
    | unwired hk => exact hk.elim
    | needsExtension hx hn => exact ⟨rfl, hx, by simpa [needsExtension] using hn⟩

/-! ### Runs -/

theorem runFrom_next {s t : State} (h : step s = .next t) (c n : Nat) :
    runFrom c s (n + 1) = runFrom (c + t.cycles) t n := by
  rw [runFrom, h]

theorem runFrom_fault {s : State} {k : Fault} (h : step s = .fault k) (c n : Nat) :
    runFrom c s (n + 1) = .stopped k c := by
  rw [runFrom, h]

/-- A run that has not stopped, continued for `m` steps. -/
def RunResult.continued (m : Nat) : RunResult → RunResult
  | .ran t total => runFrom total t m
  | r => r

theorem runFrom_add (c : Nat) (s : State) (n m : Nat) : runFrom c s (n + m) = (runFrom c s n).continued m := by
  induction n generalizing c s with
  | zero => rw [Nat.zero_add]; rfl
  | succ n ih =>
    rw [Nat.succ_add]
    cases h : step s with
    | next t => rw [runFrom_next h, runFrom_next h, ih]
    | fault k => rw [runFrom_fault h, runFrom_fault h]; rfl
    | refused r => exact absurd h (step_ne_refused s r)

theorem runFrom_ne_refused (c : Nat) (s : State) (n : Nat) (r : Refusal) : runFrom c s n ≠ .refused r := by
  induction n generalizing c s with
  | zero => nofun
  | succ n ih =>
    cases h : step s with
    | next t => rw [runFrom_next h]; exact ih _ t
    | fault k => rw [runFrom_fault h]; nofun
    | refused r' => exact absurd h (step_ne_refused s r')

/-- Settles O59: a run is its steps, one by one, and a longer run is the shorter one continued. -/
theorem runStopsAtFirstFault : Obligations.RunStopsAtFirstFault := by
  unfold Obligations.RunStopsAtFirstFault
  intro s n m
  refine ⟨⟨rfl, fun _ => rfl⟩, fun t h => ⟨?_, fun c => runFrom_next h c n⟩,
    fun k h => ⟨runFrom_fault h 0 n, fun c => runFrom_fault h c n⟩, fun t total h => ?_, fun k total h => ?_,
    runFrom_ne_refused 0 s n⟩
  · rw [run, runFrom_next h, Nat.zero_add]
  · rw [run] at h ⊢
    rw [runFrom_add, h]
    rfl
  · rw [run] at h ⊢
    rw [runFrom_add, h]
    rfl

end Sys2Proof.Machine
end

section
/-! PROOF of O60. `mnemonic` is the fetch of a step at any address, without its check for `HALT` and `STOP` (spec
60_exceptions.md R315, R316). -/

namespace Sys2Proof.Machine

theorem mnemonic_of_bytes {s : State} {a : Word} {i : Instr} (hw : i.wf = true)
    (hr : s.bytesReady a (encode i).length = true) (hb : s.bytesFrom a (encode i).length = encode i) :
    mnemonic s a = .ok (textOf a i, s.afterBytes a (encode i).length) := by
  obtain ⟨ha, hrest⟩ := fetchRest_of_bytes (decode_encode hw) hr hb
  simp only [mnemonic, readByte_ok ha, bind, Except.bind, hrest]
  rfl

theorem mnemonic_readsOnly {s t : State} {a : Word} {text : String} (h : mnemonic s a = .ok (text, t)) :
    s.readsOnly t := by
  obtain ⟨⟨op, u⟩, hop, h⟩ := bind_eq_ok h
  obtain ⟨x, hx, h⟩ := bind_eq_ok h
  cases h
  exact fetchRest_after (readsOnly_readByte (readsOnly_refl s) hop) hx

theorem mnemonic_error {s : State} {a : Word} {k : Fault} (h : mnemonic s a = .error k) :
    ∃ b, s.accessible b = false ∧ k = accessFault b .read ∧ (b = a ∨ b = a + 1#16 ∨ b = a + 2#16) := by
  unfold mnemonic at h
  cases ha : s.accessible a with
  | false =>
    rw [readByte_error ha] at h
    cases h
    exact ⟨a, ha, rfl, .inl rfl⟩
  | true =>
    rw [readByte_ok ha] at h
    cases hf : fetchRest (s.noteRead a) a (s.byteAt a) with
    | ok x => simp [bind, Except.bind, hf, pure, Except.pure] at h
    | error e =>
      simp only [bind, Except.bind, hf] at h
      cases h
      obtain ⟨b, hb, hk, hab⟩ := fetchRest_error (accessible_noteRead s a) hf
      exact ⟨b, hb, hk, .inr hab⟩

/-- Settles O60: the fetch finds the instruction, its reads change what a device sees, and a byte fails it. -/
theorem disassemblyAgrees : Obligations.DisassemblyAgrees := by
  unfold Obligations.DisassemblyAgrees
  exact fun s a => ⟨fun i => mnemonic_of_bytes, fun text t => mnemonic_readsOnly, fun k => mnemonic_error⟩

end Sys2Proof.Machine
end

section
/-! PROOF of O56. The state after reset meets each part of the invariant (spec 70_reset_and_hazards.md R341 to R345). -/

namespace Sys2Proof.Machine

theorem inv_reset : State.reset.Inv :=
  { memory := wf_empty 2
    flags := rfl
    banks := Nat.le_refl 2
    romSlot := ⟨Nat.le_refl 1, Nat.lt_succ_self 1⟩
    wramSlot := Nat.le_refl 1
    base := fun _ => ⟨rfl, rfl, rfl⟩ }

/-- Settles O56: legal by its parts, and every value is the one that `State.reset` writes. -/
theorem resetIsLegal : Obligations.ResetIsLegal := by
  unfold Obligations.ResetIsLegal
  exact ⟨inv_reset, rfl, rfl, rfl, rfl, rfl, rfl, rfl, rfl, rfl, rfl⟩

end Sys2Proof.Machine
end
